-- ==== Sys2Proof/Word.lean ====
section
/-! DEFINITION. The word types of H9CAN-CORE (00_scope.md rules R9, R12, R14) and the fixed values of rule R9. -/

namespace Sys2Proof

/-- One payload or storage byte. -/
abbrev Byte := BitVec 8

/-- The wire identifier, `ID_W = 29` bits (R9, R61). -/
abbrev WireId := BitVec 29

/-- A node address, `DST_W = SRC_W = 9` bits (R9). -/
abbrev Addr := BitVec 9

/-- A message-type code, `TYPE_W = 5` bits (R9). -/
abbrev TypeCode := BitVec 5

/-- A sequence number, `SEQ_W = 5` bits (R9); it counts modulo `SEQ_MOD = 32`. -/
abbrev SeqNum := BitVec 5

/-- One FIFO slot's content, 100 bits (R65). -/
abbrev Entry := BitVec 100

/-- `BCAST`, the broadcast address (R9). -/
abbrev bcast : Addr := 0x1FF

/-- `N_STD_REGS`, the number of standard register slots (R9). -/
abbrev nStdRegs : Nat := 10

/-- `MAX_DLC`, the largest data length count (R9). -/
abbrev maxDlc : BitVec 4 := 8

end Sys2Proof
end

