-- ==== Sys2Proof/Syntax.lean ====
section
/-! DEFINITION. The frames (R14), the names the protocol uses (R69, R74, R76), the instructions (one constructor per
row of spec/opcode_table.json) and the moves the agents of R7 can make. -/

namespace Sys2Proof

/-- A wire frame: identifier, data length count and 64 data bits, payload byte `k` at bits `[8k+7:8k]` (R14, R64). -/
structure WFrame where
  id : WireId
  dlc : BitVec 4
  data : BitVec 64
deriving DecidableEq, Repr, Inhabited

/-- A protocol frame: the five identifier fields with `dlc` and `data` (R14, R63). -/
structure Frame where
  prio : BitVec 1
  typ : TypeCode
  seq : SeqNum
  dst : Addr
  src : Addr
  dlc : BitVec 4
  data : BitVec 64
deriving DecidableEq, Repr, Inhabited

/-- The twelve message-type names of R69. -/
inductive MsgType where
  | setReg | getReg | setBit | clearBit | toggleBit | nodeUpgrade | nodeReset | discover
  | regExternallyChanged | regValue | error | nodeInfo
deriving DecidableEq, Repr, Inhabited

/-- The five error names of R76. -/
inductive ErrName where
  | invalidMsg | bootloaderUnsupported | invalidRegister | readOnlyRegister | registerSizeMismatch
deriving DecidableEq, Repr, Inhabited

/-- What a slot of the standard register table holds (R23, R74). -/
inductive RegKind where
  | nodeType | hwRevision | fwVersion | buildDesc | mcuId | serialNumber | resetCause | nodeId
  | unassigned
deriving DecidableEq, Repr, Inhabited

/-- The instructions of the block: the dispatch cases of R78, each with the received frame as its operand, and the
operations of R83 with the codec's two (R90, R91). -/
inductive Instr where
  /-- REJECT_SRC_BCAST, R132. -/
  | rejectSrcBcast (f : Frame)
  /-- DISCOVER, R134. -/
  | discover (f : Frame)
  /-- NODE_RESET, R135. -/
  | nodeReset (f : Frame)
  /-- BCAST_INVALID, R136. -/
  | bcastInvalid (f : Frame)
  /-- SET_REG, R137: the index dispatch; the decoder leaves it the indices that are delegated. -/
  | setReg (f : Frame)
  /-- SET_REG.NODE_ID, R138. -/
  | setRegNodeId (f : Frame)
  /-- SET_REG.READ_ONLY, R139. -/
  | setRegReadOnly (f : Frame)
  /-- SET_REG.UNASSIGNED, R140. -/
  | setRegUnassigned (f : Frame)
  /-- GET_REG, R141: the index dispatch; the decoder leaves it the indices that are delegated. -/
  | getReg (f : Frame)
  /-- GET_REG.STANDARD, R142. -/
  | getRegStandard (f : Frame)
  /-- GET_REG.UNASSIGNED, R143. -/
  | getRegUnassigned (f : Frame)
  /-- NODE_UPGRADE, R144. -/
  | nodeUpgrade (f : Frame)
  /-- SET_BIT, R145. -/
  | setBit (f : Frame)
  /-- CLEAR_BIT, R145. -/
  | clearBit (f : Frame)
  /-- TOGGLE_BIT, R145. -/
  | toggleBit (f : Frame)
  /-- NODE_INVALID, R146. -/
  | nodeInvalid (f : Frame)
  /-- REMOTE_PASS_THROUGH, R147. -/
  | remotePassThrough (f : Frame)
  /-- NO_MATCH, R148. -/
  | noMatch (f : Frame)
  /-- ENCODE, R90: five unsigned numbers of any width. -/
  | encode (prio typ seq dst src : Nat)
  /-- DECODE, R91. -/
  | decode (id : WireId)
  /-- BREQ, R94. -/
  | breq (typ : TypeCode) (dst : Addr)
  /-- POLL, R130: its first step, the fetch of R131. -/
  | poll
  /-- SUBMIT, R111. -/
  | submit (w : WFrame)
  /-- INIT, R192: the persistence answer, `none` for "unset". -/
  | init (ans : Option Addr)
  /-- RX, R105: the frame on the `rx_*` ports. -/
  | rx (w : WFrame)
  /-- TXDONE.C, R183. -/
  | txdoneC
  /-- TXDONE.H, R113. -/
  | txdoneH
  /-- SYNC.W, R108. -/
  | syncW
  /-- SYNC.R, R109. -/
  | syncR
deriving DecidableEq, Repr, Inhabited

/-- The frame a dispatch case acts on; `none` for a block operation. -/
def Instr.frame? : Instr → Option Frame
  | .rejectSrcBcast f => some f
  | .discover f => some f
  | .nodeReset f => some f
  | .bcastInvalid f => some f
  | .setReg f => some f
  | .setRegNodeId f => some f
  | .setRegReadOnly f => some f
  | .setRegUnassigned f => some f
  | .getReg f => some f
  | .getRegStandard f => some f
  | .getRegUnassigned f => some f
  | .nodeUpgrade f => some f
  | .setBit f => some f
  | .clearBit f => some f
  | .toggleBit f => some f
  | .nodeInvalid f => some f
  | .remotePassThrough f => some f
  | .noMatch f => some f
  | .encode _ _ _ _ _ => none
  | .decode _ => none
  | .breq _ _ => none
  | .poll => none
  | .submit _ => none
  | .init _ => none
  | .rx _ => none
  | .txdoneC => none
  | .txdoneH => none
  | .syncW => none
  | .syncR => none

/-- The three request ports of the SYS domain (R28). -/
inductive ReqPort where
  | poll | submit | breq
deriving DecidableEq, Repr, Inhabited

/-- The two clock domains (R26). -/
inductive Domain where
  | bus | sys
deriving DecidableEq, Repr, Inhabited

/-- The data inputs of a BREQ request (R27). -/
structure BreqArgs where
  typ : TypeCode
  dst : Addr
deriving DecidableEq, Repr, Inhabited

/-- One move of an agent (R7). `State.agenda` is a list of these; notes/assumptions/1.md. -/
inductive Move where
  /-- A block operation, with its operands. -/
  | op (i : Instr)
  /-- The SYS domain takes the next step of the poll in progress (R130: DISPATCH or RESPOND). -/
  | sys
  /-- The SYS domain samples a request port (R28). -/
  | serve (p : ReqPort)
  /-- The APP presents a level on `poll_req` (R28). -/
  | drivePoll (high : Bool)
  /-- The APP presents levels on `sub_req` and its data; `none` is low (R28). -/
  | driveSub (level : Option WFrame)
  /-- The APP presents levels on `breq_req` and its data; `none` is low (R28). -/
  | driveBreq (level : Option BreqArgs)
  /-- The APP submits the frame its last `build_request` built, with a payload added (R84, REQ;
  notes/assumptions/28.md). -/
  | submitBuilt (dlc : BitVec 4) (data : BitVec 64)
  /-- The environment changes the input port `reset_cause` (R181). -/
  | setResetCause (v : Byte)
  /-- Both resets are asserted and released (R190). -/
  | assertResets
  /-- The reset of one domain alone is asserted (R190: outside the model). -/
  | assertOneReset (d : Domain)
deriving DecidableEq, Repr, Inhabited

end Sys2Proof
end

