-- ==== Sys2Proof/Config.lean ====
section
/-! DEFINITION. The configuration record `Cfg` of R10 with the spec's defaults, the launch inputs that have none
(opaque constants), and the free values (notes/assumptions/1.md, 3.md, 6.md, 7.md). -/

namespace Sys2Proof

/-- `Cfg.CDC_VIEW` (R10, R110; D3). -/
inductive CdcView where
  | lagged | exact
deriving DecidableEq, Repr, Inhabited

/-- `Cfg.TYPE_CODE`, one code per message-type name (R10, R70). -/
structure TypeCodes where
  setReg : TypeCode
  getReg : TypeCode
  setBit : TypeCode
  clearBit : TypeCode
  toggleBit : TypeCode
  nodeUpgrade : TypeCode
  nodeReset : TypeCode
  discover : TypeCode
  regExternallyChanged : TypeCode
  regValue : TypeCode
  error : TypeCode
  nodeInfo : TypeCode
deriving DecidableEq, Repr

/-- `Cfg.ERR_CODE`, one code per error name (R10, R77). -/
structure ErrCodes where
  invalidMsg : Byte
  bootloaderUnsupported : Byte
  invalidRegister : Byte
  readOnlyRegister : Byte
  registerSizeMismatch : Byte
deriving DecidableEq, Repr

/-- The configuration record (R10): fixed for the life of the block. -/
structure Cfg where
  typeCode : TypeCodes
  groupBcast : List TypeCode
  groupNode : List TypeCode
  groupRemote : List TypeCode
  errCode : ErrCodes
  regMap : List RegKind
  nodeType : BitVec 16
  hwRevision : Byte
  versionMajor : BitVec 16
  versionMinor : BitVec 16
  buildDesc : List Byte
  mcuId : Byte
  upgradeSupported : Bool
  corePrio : BitVec 1
  addrRejectCode : ErrName
  cdcView : CdcView
deriving DecidableEq, Repr

namespace Config

/-- `TYPE_CODE`'s default (R70; D8). -/
def defaultTypeCodes : TypeCodes :=
  { setReg := 0x08, getReg := 0x09, setBit := 0x0A, clearBit := 0x0B, toggleBit := 0x0C
    nodeUpgrade := 0x0D, nodeReset := 0x0E, discover := 0x0F, regExternallyChanged := 0x10
    regValue := 0x11, error := 0x12, nodeInfo := 0x13 }

/-- `ERR_CODE`'s default (R77; D11). -/
def defaultErrCodes : ErrCodes :=
  { invalidMsg := 0x01, bootloaderUnsupported := 0x02, invalidRegister := 0x03
    readOnlyRegister := 0x04, registerSizeMismatch := 0x05 }

/-- `REG_MAP`'s default (R74; D12). -/
def defaultRegMap : List RegKind :=
  [.nodeType, .hwRevision, .fwVersion, .buildDesc, .mcuId, .serialNumber, .resetCause,
   .unassigned, .unassigned, .nodeId]

/-- The default of `GROUP_BCAST` (R72; D9). -/
def defaultGroupBcast : List TypeCode := [0x0E, 0x0F]

/-- The default of `GROUP_NODE` (R72; D9). -/
def defaultGroupNode : List TypeCode := [0x08, 0x09, 0x0A, 0x0B, 0x0C, 0x0D]

/-- The default of `GROUP_REMOTE` (R72; D9). -/
def defaultGroupRemote : List TypeCode := [0x10, 0x11, 0x12, 0x13, 0x14, 0x15, 0x16, 0x17]

/-- `NODE_TYPE`, a launch input with no default (R10; D16). -/
opaque nodeType : BitVec 16
/-- `HW_REVISION`, a launch input with no default (R10; D16). -/
opaque hwRevision : Byte
/-- `VERSION_MAJOR`, a launch input with no default (R10; D16). -/
opaque versionMajor : BitVec 16
/-- `VERSION_MINOR`, a launch input with no default (R10; D16). -/
opaque versionMinor : BitVec 16
/-- `BUILD_DESC`, a launch input with no default (R10; D35). -/
opaque buildDesc : List Byte
/-- `MCU_ID`, a launch input with no default (R10; D16). -/
opaque mcuId : Byte
/-- `UPGRADE_SUPPORTED`, a launch input with no default (R10; D29). -/
opaque upgradeSupported : Bool

/-- The configuration of `State.reset`: the defaults of R10, and the launch inputs left open. -/
def launch : Cfg :=
  { typeCode := defaultTypeCodes
    groupBcast := defaultGroupBcast
    groupNode := defaultGroupNode
    groupRemote := defaultGroupRemote
    errCode := defaultErrCodes
    regMap := defaultRegMap
    nodeType := nodeType
    hwRevision := hwRevision
    versionMajor := versionMajor
    versionMinor := versionMinor
    buildDesc := buildDesc
    mcuId := mcuId
    upgradeSupported := upgradeSupported
    corePrio := 1
    addrRejectCode := .invalidRegister
    cdcView := .lagged }

/-- The example configuration of 95_test_vectors.md section 0; only tests use it. -/
def example95 : Cfg :=
  { typeCode := defaultTypeCodes
    groupBcast := defaultGroupBcast
    groupNode := defaultGroupNode
    groupRemote := defaultGroupRemote
    errCode := defaultErrCodes
    regMap := defaultRegMap
    nodeType := 0x0102
    hwRevision := 0x03
    versionMajor := 0x0001
    versionMinor := 0x0002
    buildDesc := [0x61, 0x62, 0x63]
    mcuId := 0x2A
    upgradeSupported := false
    corePrio := 1
    addrRejectCode := .invalidRegister
    cdcView := .lagged }

/-- FREE VALUE: what slot `k` of `RX.mem` holds before its first write (I1, R24). -/
opaque freeRxSlot : Nat → Entry

/-- FREE VALUE: what slot `k` of `TX.mem` holds before its first write (I1, R24). -/
opaque freeTxSlot : Nat → Entry

/-- FREE VALUE: what the input port `reset_cause` carries at reset (R30, I5). -/
opaque resetCause : Byte

/-- FREE VALUE: the `n`-th move that nothing has chosen (R7: any enabled step of any agent; R28, R177). -/
opaque draw : Nat → Move

end Config

end Sys2Proof
end

