-- ==== Sys2Proof/Machine/Codec.lean ====
section
/-! DEFINITION. The identifier codec (R61, R62, R90, R91), the frame helpers (R95), the FIFO entry layout (R65, R66),
the payload byte lanes (R64) and the response-type map (R93). Pure functions: no state. -/

namespace Sys2Proof.Machine

/-- `encode` (R90), the fields in the order of R61 from the most significant bit: `priority(1) | type(5) | seqnum(5) |
destination_id(9) | source_id(9)`. Inputs of any width; `BitVec.ofNat` keeps the low bits of each, which is R90's mask. -/
def encodeId (p t s d r : Nat) : WireId :=
  BitVec.ofNat 1 p ++ BitVec.ofNat 5 t ++ BitVec.ofNat 5 s ++ BitVec.ofNat 9 d ++ BitVec.ofNat 9 r

/-- `priority = id[28]` (R61). -/
def idPrio (id : WireId) : BitVec 1 := id.extractLsb' 28 1
/-- `type = id[27:23]` (R61). -/
def idType (id : WireId) : TypeCode := id.extractLsb' 23 5
/-- `seqnum = id[22:18]` (R61). -/
def idSeq (id : WireId) : SeqNum := id.extractLsb' 18 5
/-- `destination_id = id[17:9]` (R61). -/
def idDst (id : WireId) : Addr := id.extractLsb' 9 9
/-- `source_id = id[8:0]` (R61). -/
def idSrc (id : WireId) : Addr := id.extractLsb' 0 9

/-- The identifier made of five fields of the port widths: R90 on their values. -/
def encodeFields (p : BitVec 1) (t : TypeCode) (s : SeqNum) (d r : Addr) : WireId :=
  encodeId p.toNat t.toNat s.toNat d.toNat r.toNat

/-- `wire(f)` (R95). -/
def wire (f : Frame) : WFrame :=
  { id := encodeFields f.prio f.typ f.seq f.dst f.src, dlc := f.dlc, data := f.data }

/-- `fields(w)` (R95): `decode(w.id)` (R91) together with `dlc` and `data`. -/
def fields (w : WFrame) : Frame :=
  { prio := idPrio w.id, typ := idType w.id, seq := idSeq w.id, dst := idDst w.id
    src := idSrc w.id, dlc := w.dlc, data := w.data }

/-- `dlc_eff = min(dlc, 8)` (R80). -/
def clampDlc (n : BitVec 4) : BitVec 4 := if maxDlc < n then maxDlc else n

/-- A frame as a port hands it over, its dlc clamped (R80). -/
def clampFrame (w : WFrame) : WFrame := { w with dlc := clampDlc w.dlc }

/-- Identifier sub-byte 0: `zext_8(id[28:24])` (R66). -/
def idb0 (id : WireId) : Byte := (id.extractLsb' 24 5).setWidth 8
/-- Identifier sub-byte 1: `id[23:16]` (R66). -/
def idb1 (id : WireId) : Byte := id.extractLsb' 16 8
/-- Identifier sub-byte 2: `id[15:8]` (R66). -/
def idb2 (id : WireId) : Byte := id.extractLsb' 8 8
/-- Identifier sub-byte 3: `id[7:0]` (R66). -/
def idb3 (id : WireId) : Byte := id.extractLsb' 0 8

/-- Reassembly `{idb0[4:0], idb1, idb2, idb3}`; `idb0[7:5]` is ignored (R66). -/
def idOfBytes (b0 b1 b2 b3 : Byte) : WireId := b0.extractLsb' 0 5 ++ b1 ++ b2 ++ b3

/-- `pack` (R65, R66). -/
def pack (w : WFrame) : Entry :=
  idb0 w.id ++ idb1 w.id ++ idb2 w.id ++ idb3 w.id ++ w.dlc ++ w.data

/-- `unpack` (R65, R66). -/
def unpack (e : Entry) : WFrame :=
  { id := idOfBytes (e.extractLsb' 92 8) (e.extractLsb' 84 8) (e.extractLsb' 76 8)
      (e.extractLsb' 68 8)
    dlc := e.extractLsb' 64 4
    data := e.extractLsb' 0 64 }

/-- `data[k]`, payload byte `k` (R14, R64). -/
def dataByte (data : BitVec 64) (k : Nat) : Byte := data.extractLsb' (8 * k) 8

/-- The 64 data bits of a list of payload bytes, byte `k` at `[8k+7:8k]`, every byte after the list 0 (R64, R85). -/
def packData : List Byte → BitVec 64
  | [] => 0
  | b :: bs => (packData bs <<< 8) ||| b.setWidth 64

/-- The two bytes of a 16-bit value, big-endian (R46). -/
def be16 (v : BitVec 16) : List Byte := [v.extractLsb' 8 8, v.extractLsb' 0 8]

/-- `resp_type` (R93). -/
def respType : MsgType → Option MsgType
  | .getReg => some .regValue
  | .setReg => some .regExternallyChanged
  | .setBit => some .regExternallyChanged
  | .clearBit => some .regExternallyChanged
  | .toggleBit => some .regExternallyChanged
  | .discover => some .nodeInfo
  | .nodeUpgrade => none
  | .nodeReset => none
  | .regExternallyChanged => none
  | .regValue => none
  | .error => none
  | .nodeInfo => none

/-- The 9-bit address whose value a 16-bit register value carries: the low 9 bits (R68). -/
def addrOf16 (v : BitVec 16) : Addr := v.extractLsb' 0 9

end Sys2Proof.Machine
end

