-- ==== Sys2Proof/Machine/Operands.lean ====
section
/-! DEFINITION. The operands a dispatch case reads: the lookups in `Cfg` (R70, R72, R74, R77), the register index and
the address value of a payload (R67, R68), the values of the standard registers (R23, R142) and the payloads of the
responses (R75, R85). -/

namespace Sys2Proof.Machine

/-- `TYPE_CODE(t)` (R70). -/
def typeCodeOf (c : Cfg) : MsgType → TypeCode
  | .setReg => c.typeCode.setReg
  | .getReg => c.typeCode.getReg
  | .setBit => c.typeCode.setBit
  | .clearBit => c.typeCode.clearBit
  | .toggleBit => c.typeCode.toggleBit
  | .nodeUpgrade => c.typeCode.nodeUpgrade
  | .nodeReset => c.typeCode.nodeReset
  | .discover => c.typeCode.discover
  | .regExternallyChanged => c.typeCode.regExternallyChanged
  | .regValue => c.typeCode.regValue
  | .error => c.typeCode.error
  | .nodeInfo => c.typeCode.nodeInfo

/-- `ERR_CODE(e)` (R77). -/
def errCodeOf (c : Cfg) : ErrName → Byte
  | .invalidMsg => c.errCode.invalidMsg
  | .bootloaderUnsupported => c.errCode.bootloaderUnsupported
  | .invalidRegister => c.errCode.invalidRegister
  | .readOnlyRegister => c.errCode.readOnlyRegister
  | .registerSizeMismatch => c.errCode.registerSizeMismatch

/-- `t ∈ GROUP_BCAST` (R72). -/
def inBcast (c : Cfg) (t : TypeCode) : Bool := c.groupBcast.contains t
/-- `t ∈ GROUP_NODE` (R72). -/
def inNode (c : Cfg) (t : TypeCode) : Bool := c.groupNode.contains t
/-- `t ∈ GROUP_REMOTE` (R72). -/
def inRemote (c : Cfg) (t : TypeCode) : Bool := c.groupRemote.contains t

/-- `REG_MAP(i)` for `i < 10` (R74). -/
def regKindOf (c : Cfg) (i : Nat) : RegKind := c.regMap.getD i .unassigned

/-- The register index of GET_REG and SET_REG: payload byte 0 (R67). -/
def regIndex (f : Frame) : Nat := (dataByte f.data 0).toNat

/-- `addr_val = {data[1], data[2]}[8:0]` (R68). -/
def addrOperand (f : Frame) : Addr := addrOf16 (dataByte f.data 1 ++ dataByte f.data 2)

/-- The first six bytes of `BUILD_DESC`, each missing byte 0 (R142). -/
def buildDescSix (c : Cfg) : List Byte := (c.buildDesc ++ List.replicate 6 0).take 6

/-- `value(i)` by the register kind of the slot, big-endian (R142). -/
def regValue (c : Cfg) (nodeAddr : Addr) (resetCause : Byte) : RegKind → List Byte
  | .nodeType => be16 c.nodeType
  | .hwRevision => [c.hwRevision]
  | .fwVersion => be16 c.versionMajor ++ be16 c.versionMinor
  | .buildDesc => buildDescSix c
  | .mcuId => [c.mcuId]
  | .serialNumber => [0, 0, 0, 0]
  | .resetCause => [resetCause]
  | .nodeId => be16 (nodeAddr.setWidth 16)
  | .unassigned => []

/-- The NODE_INFO payload (R75). -/
def nodeInfoPayload (c : Cfg) : List Byte :=
  be16 c.nodeType ++ be16 c.versionMajor ++ be16 c.versionMinor ++ [c.hwRevision]

/-- The REG_EXTERNALLY_CHANGED payload of a node-address write (R85, R138). -/
def nodeIdChangedPayload (v : Addr) : List Byte := 0x09 :: be16 (v.setWidth 16)

/-- A node address a SET_REG may not store: 0 ("unconfigured") or broadcast (R138). -/
def addrRejected (v : Addr) : Bool := v == 0 || v == bcast

/-- `norm(ans)`: the address INIT stores for a persistence answer (R193). -/
def normAddr : Option Addr → Addr
  | none => 0
  | some v => if v = bcast then 0 else v

end Sys2Proof.Machine
end

