-- ==== Sys2Proof/WellFormed.lean ====
section
/-! DEFINITION. Well-formedness: of a configuration (R73, R74, R77) and of an instruction, row by row of
spec/opcode_table.json's conditions (R78), against a configuration and the node's own address. -/

namespace Sys2Proof

open Sys2Proof.Machine

/-- The twelve codes of a configuration, in the order of R70. -/
def Cfg.codes (c : Cfg) : List TypeCode :=
  [c.typeCode.setReg, c.typeCode.getReg, c.typeCode.setBit, c.typeCode.clearBit,
   c.typeCode.toggleBit, c.typeCode.nodeUpgrade, c.typeCode.nodeReset, c.typeCode.discover,
   c.typeCode.regExternallyChanged, c.typeCode.regValue, c.typeCode.error, c.typeCode.nodeInfo]

/-- The five error codes of a configuration, in the order of R77. -/
def Cfg.errs (c : Cfg) : List Byte :=
  [c.errCode.invalidMsg, c.errCode.bootloaderUnsupported, c.errCode.invalidRegister,
   c.errCode.readOnlyRegister, c.errCode.registerSizeMismatch]

/-- The groups are pairwise disjoint (R73). -/
def Cfg.groupsDisjoint (c : Cfg) : Bool :=
  c.groupBcast.all (fun t => !c.groupNode.contains t && !c.groupRemote.contains t) &&
  c.groupNode.all (fun t => !c.groupRemote.contains t)

/-- The named request types stand in the groups of R71 (R73). -/
def Cfg.groupsHoldRequests (c : Cfg) : Bool :=
  [c.typeCode.discover, c.typeCode.nodeReset].all (fun t => c.groupBcast.contains t) &&
  [c.typeCode.setReg, c.typeCode.getReg, c.typeCode.nodeUpgrade, c.typeCode.setBit,
   c.typeCode.clearBit, c.typeCode.toggleBit].all (fun t => c.groupNode.contains t)

/-- No response type stands in `GROUP_BCAST` or `GROUP_NODE` (R73; D9). -/
def Cfg.responsesOutside (c : Cfg) : Bool :=
  [c.typeCode.regExternallyChanged, c.typeCode.regValue, c.typeCode.error,
   c.typeCode.nodeInfo].all (fun t => !c.groupBcast.contains t && !c.groupNode.contains t)

/-- The register map has ten slots, NODE_TYPE first and NODE_ID last (R74). -/
def Cfg.regMapOk (c : Cfg) : Bool :=
  c.regMap.length == nStdRegs && c.regMap.getD 0 .unassigned == .nodeType &&
  c.regMap.getD 9 .unassigned == .nodeId

/-- What any replacement of the configuration's defaults must keep (R73, R74, R77). -/
def Cfg.wf (c : Cfg) : Bool :=
  decide c.codes.Nodup && c.groupsDisjoint && c.groupsHoldRequests && c.responsesOutside &&
  decide c.errs.Nodup && c.regMapOk

/-- A frame's length count is in R63's range. -/
def Frame.wf (f : Frame) : Bool := decide (f.dlc ≤ maxDlc)

/-- The frame passes R132's source check. -/
def srcOk (f : Frame) : Bool := f.src != bcast

/-- Rule 1 of R133. -/
def isRule1 (c : Cfg) (self : Addr) (f : Frame) : Bool :=
  srcOk f && inBcast c f.typ && (f.dst == self || f.dst == bcast)

/-- Rule 2 of R133. -/
def isRule2 (c : Cfg) (self : Addr) (f : Frame) : Bool :=
  srcOk f && !isRule1 c self f && inNode c f.typ && f.dst == self

/-- Rule 3 of R133. -/
def isRule3 (c : Cfg) (self : Addr) (f : Frame) : Bool :=
  srcOk f && !isRule1 c self f && !isRule2 c self f && inRemote c f.typ

/-- Rule 4 of R133. -/
def isRule4 (c : Cfg) (self : Addr) (f : Frame) : Bool :=
  srcOk f && !isRule1 c self f && !isRule2 c self f && !isRule3 c self f

/-- The frame has the type and the length of the SET_REG row (R137). -/
def isSetReg (c : Cfg) (f : Frame) : Bool := f.typ == typeCodeOf c .setReg && decide (1 < f.dlc)
/-- The frame has the type and the length of the GET_REG row (R141). -/
def isGetReg (c : Cfg) (f : Frame) : Bool := f.typ == typeCodeOf c .getReg && f.dlc == 1
/-- The frame has the type and the length of the NODE_UPGRADE row (R144). -/
def isUpgrade (c : Cfg) (f : Frame) : Bool := f.typ == typeCodeOf c .nodeUpgrade && f.dlc == 0
/-- The frame has the length of the bit operations' rows and type `t` (R145). -/
def isBitOp (c : Cfg) (t : MsgType) (f : Frame) : Bool := f.typ == typeCodeOf c t && f.dlc == 2

/-- An instruction is well formed when its row's condition holds of its frame (spec/opcode_table.json; R78). A block
operation is well formed for every operand (R80, R90, R111: nothing is checked). -/
def Instr.wf (c : Cfg) (self : Addr) : Instr → Bool
  | .rejectSrcBcast f => f.wf && f.src == bcast
  | .discover f => f.wf && isRule1 c self f && f.typ == typeCodeOf c .discover && f.dlc == 0
  | .nodeReset f => f.wf && isRule1 c self f && f.typ == typeCodeOf c .nodeReset && f.dlc == 0
  | .bcastInvalid f =>
    f.wf && isRule1 c self f && !(f.typ == typeCodeOf c .discover && f.dlc == 0) &&
    !(f.typ == typeCodeOf c .nodeReset && f.dlc == 0)
  | .setReg f => f.wf && isRule2 c self f && isSetReg c f && decide (nStdRegs ≤ regIndex f)
  | .setRegNodeId f =>
    f.wf && isRule2 c self f && isSetReg c f && decide (regIndex f < nStdRegs) &&
    regKindOf c (regIndex f) == .nodeId
  | .setRegReadOnly f =>
    f.wf && isRule2 c self f && isSetReg c f && decide (regIndex f < nStdRegs) &&
    regKindOf c (regIndex f) != .nodeId && regKindOf c (regIndex f) != .unassigned
  | .setRegUnassigned f =>
    f.wf && isRule2 c self f && isSetReg c f && decide (regIndex f < nStdRegs) &&
    regKindOf c (regIndex f) == .unassigned
  | .getReg f => f.wf && isRule2 c self f && isGetReg c f && decide (nStdRegs ≤ regIndex f)
  | .getRegStandard f =>
    f.wf && isRule2 c self f && isGetReg c f && decide (regIndex f < nStdRegs) &&
    regKindOf c (regIndex f) != .unassigned
  | .getRegUnassigned f =>
    f.wf && isRule2 c self f && isGetReg c f && decide (regIndex f < nStdRegs) &&
    regKindOf c (regIndex f) == .unassigned
  | .nodeUpgrade f => f.wf && isRule2 c self f && isUpgrade c f
  | .setBit f => f.wf && isRule2 c self f && isBitOp c .setBit f
  | .clearBit f => f.wf && isRule2 c self f && isBitOp c .clearBit f
  | .toggleBit f => f.wf && isRule2 c self f && isBitOp c .toggleBit f
  | .nodeInvalid f =>
    f.wf && isRule2 c self f && !isSetReg c f && !isGetReg c f && !isUpgrade c f &&
    !isBitOp c .setBit f && !isBitOp c .clearBit f && !isBitOp c .toggleBit f
  | .remotePassThrough f => f.wf && isRule3 c self f
  | .noMatch f => f.wf && isRule4 c self f
  | .encode _ _ _ _ _ => true
  | .decode _ => true
  | .breq _ _ => true
  | .poll => true
  | .submit _ => true
  | .init _ => true
  | .rx _ => true
  | .txdoneC => true
  | .txdoneH => true
  | .syncW => true
  | .syncR => true

end Sys2Proof
end

