-- ==== Sys2Proof/Decode.lean ====
section
/-! DEFINITION. The decoder: from the bytes of a stored frame to the frame (R65, R66), from the frame to its dispatch
case (R132, R133, R137, R141, R78); the encoder; the words of spec/opcode_table.json (notes/assumptions/17.md). -/

namespace Sys2Proof

open Sys2Proof.Machine

/-- Why a list of bytes is no stored frame. -/
inductive DecodeError where
  /-- Fewer than the 13 bytes of a frame: four identifier sub-bytes, the dlc, eight data bytes. -/
  | truncated
  /-- More than 13 bytes. -/
  | trailing
  /-- The dlc byte holds a value its 4-bit field (R65) cannot hold. -/
  | dlcRange
deriving DecidableEq, Repr

/-- Rule 1 of R133: DISCOVER, NODE_RESET, or the fall-through of R136. -/
def decodeRule1 (c : Cfg) (f : Frame) : Instr :=
  if f.typ = typeCodeOf c .discover ∧ f.dlc = 0 then .discover f
  else if f.typ = typeCodeOf c .nodeReset ∧ f.dlc = 0 then .nodeReset f
  else .bcastInvalid f

/-- The index dispatch of SET_REG (R137). -/
def decodeSetReg (c : Cfg) (f : Frame) : Instr :=
  if nStdRegs ≤ regIndex f then .setReg f
  else if regKindOf c (regIndex f) = .nodeId then .setRegNodeId f
  else if regKindOf c (regIndex f) = .unassigned then .setRegUnassigned f
  else .setRegReadOnly f

/-- The index dispatch of GET_REG (R141). -/
def decodeGetReg (c : Cfg) (f : Frame) : Instr :=
  if nStdRegs ≤ regIndex f then .getReg f
  else if regKindOf c (regIndex f) = .unassigned then .getRegUnassigned f
  else .getRegStandard f

/-- Rule 2 of R133: R137, R141, R144, R145, or the fall-through of R146. -/
def decodeRule2 (c : Cfg) (f : Frame) : Instr :=
  if f.typ = typeCodeOf c .setReg ∧ 1 < f.dlc then decodeSetReg c f
  else if f.typ = typeCodeOf c .getReg ∧ f.dlc = 1 then decodeGetReg c f
  else if f.typ = typeCodeOf c .nodeUpgrade ∧ f.dlc = 0 then .nodeUpgrade f
  else if f.typ = typeCodeOf c .setBit ∧ f.dlc = 2 then .setBit f
  else if f.typ = typeCodeOf c .clearBit ∧ f.dlc = 2 then .clearBit f
  else if f.typ = typeCodeOf c .toggleBit ∧ f.dlc = 2 then .toggleBit f
  else .nodeInvalid f

/-- The dispatch case of a frame, in the order of R132 and R133. -/
def classify (c : Cfg) (self : Addr) (f : Frame) : Instr :=
  if f.src = bcast then .rejectSrcBcast f
  else if inBcast c f.typ = true ∧ (f.dst = self ∨ f.dst = bcast) then decodeRule1 c f
  else if inNode c f.typ = true ∧ f.dst = self then decodeRule2 c f
  else if inRemote c f.typ = true then .remotePassThrough f
  else .noMatch f

/-- The instruction a wire frame stands for, on a node whose configuration is `c` and whose address is `self`. -/
def decodeFrame (c : Cfg) (self : Addr) (w : WFrame) : Instr := classify c self (fields w)

/-- A stored frame from its bytes: identifier sub-bytes `idb0..idb3` (R66), dlc, data bytes 0 to 7 (R64). -/
def frameOfBytes : List Byte → Except DecodeError WFrame
  | [b0, b1, b2, b3, n, d0, d1, d2, d3, d4, d5, d6, d7] =>
    if n.toNat < 16 then
      .ok { id := idOfBytes b0 b1 b2 b3, dlc := n.setWidth 4
            data := packData [d0, d1, d2, d3, d4, d5, d6, d7] }
    else .error .dlcRange
  | bs => if bs.length < 13 then .error .truncated else .error .trailing

/-- The decoder on bytes: total, rejecting by name. -/
def decodeBytes (c : Cfg) (self : Addr) (bs : List Byte) : Except DecodeError Instr :=
  match frameOfBytes bs with
  | .ok w => .ok (decodeFrame c self w)
  | .error e => .error e

/-- The bytes of a stored frame, in the layout `frameOfBytes` reads. -/
def bytesOfFrame (w : WFrame) : List Byte :=
  [idb0 w.id, idb1 w.id, idb2 w.id, idb3 w.id, w.dlc.setWidth 8,
   dataByte w.data 0, dataByte w.data 1, dataByte w.data 2, dataByte w.data 3,
   dataByte w.data 4, dataByte w.data 5, dataByte w.data 6, dataByte w.data 7]

/-- The encoder: the bytes of a dispatch case's frame. The spec gives a block operation no encoding in bits
(spec/opcode_table.json: match and mask null), so it has none here; its notation is in Machine/Program.lean. -/
def encode (i : Instr) : Option (List Byte) := i.frame?.map (fun f => bytesOfFrame (wire f))

/-- Bits `[8k+7:8k]` of a table word cut to `nbits`. -/
def tableByte (nbits w k : Nat) : Byte := BitVec.ofNat 8 ((w % 2 ^ nbits) >>> (8 * k))

/-- A table word as the hardware stores it: the identifier's four sub-bytes big-endian (R66), then dlc and data. -/
def tableBytes (nbits w : Nat) : List Byte :=
  [tableByte nbits w 3, tableByte nbits w 2, tableByte nbits w 1, tableByte nbits w 0] ++
  (List.range 9).map (fun k => tableByte nbits w (k + 4))

/-- The frame of a table word; `none` where the decoder refuses its bytes. -/
def tableFrame (nbits w : Nat) : Option WFrame := (frameOfBytes (tableBytes nbits w)).toOption

/-- The instruction the decoder reads from a word of spec/opcode_table.json, with the configuration and the node
address of `State.reset` (R30: 0). -/
def decodeTableWord (nbits w : Nat) : Option Instr :=
  (decodeBytes Config.launch 0 (tableBytes nbits w)).toOption

end Sys2Proof
end

