-- ==== Sys2Proof/Machine/State.lean ====
section
/-! DEFINITION. The state of the block (R16), the TRANSPORT's (R182), the levels its ports hold (R27), the output
events (R20), the reasons a step can stop, and the state after reset (R30). -/

namespace Sys2Proof.Machine

/-- `S.fsm` (R19). -/
inductive Fsm where
  | idle | dispatch | respond | terminal
deriving DecidableEq, Repr, Inhabited

/-- `S.halt` (R16). -/
inductive Halt where
  | run | resetTriggered | upgradeTriggered
deriving DecidableEq, Repr, Inhabited

/-- `poll_result` (R81). -/
inductive PollResult where
  | nothingPending | handled | delegate | passThrough | rejected
deriving DecidableEq, Repr, Inhabited

/-- `poll_resp` (R81). -/
inductive RespStatus where
  | none | sent | queued | dropped
deriving DecidableEq, Repr, Inhabited

/-- `sub_result`, the result of the transmit path (R82, R111). -/
inductive TxResult where
  | sent | queued | rejectedFull
deriving DecidableEq, Repr, Inhabited

/-- The output events (R20). -/
inductive Event where
  | txStart (w : WFrame)
  | pollAck (r : PollResult) (st : RespStatus) (w : WFrame)
  | subAck (r : TxResult)
  | breqAck (id : WireId)
  | persistStore (a : Addr)
  | persistLoadReq
  | resetTrigger
  | upgradeTrigger
deriving DecidableEq, Repr, Inhabited

/-- The five fields on the codec's `dec_*` ports (R27, R91). -/
structure DecOut where
  prio : BitVec 1
  typ : TypeCode
  seq : SeqNum
  dst : Addr
  src : Addr
deriving DecidableEq, Repr, Inhabited

/-- A request port with its data inputs, as R28's handshake leaves it (notes/assumptions/9.md). -/
inductive ReqLine (α : Type) where
  /-- The request is low. -/
  | low
  /-- High with these data, and not accepted yet. -/
  | raised (a : α)
  /-- High with these data, and accepted. Until its acknowledge it is that same request; high in a clock after the
  acknowledge it is a new one (R200). -/
  | taken (a : α)
deriving DecidableEq, Repr, Inhabited

/-- The storage of a FIFO: (slot, entry) pairs, slots strictly rising, a slot listed once it has been written
(R24, R41 to R43; notes/assumptions/6.md). -/
abbrev Memory := List (Nat × Entry)

/-- The machine's state. -/
structure State where
  /-- `RX.mem` -/
  rxMem : Memory
  /-- `RX.wr`, owned by BUS -/
  rxWr : BitVec 4
  /-- `RX.rd`, owned by SYS -/
  rxRd : BitVec 4
  /-- `RX.wr_v`, the SYS view of `RX.wr` -/
  rxWrV : BitVec 4
  /-- `RX.rd_v`, the BUS view of `RX.rd` -/
  rxRdV : BitVec 4
  /-- `TX.mem` -/
  txMem : Memory
  /-- `TX.wr`, owned by SYS -/
  txWr : BitVec 3
  /-- `TX.rd`, owned by BUS -/
  txRd : BitVec 3
  /-- `tx_inflight`, the transmit channel's busy flag -/
  txInflight : Bool
  /-- `txdone_pending` -/
  txdonePending : Bool
  /-- `node_addr` -/
  nodeAddr : Addr
  /-- `seq` -/
  seq : SeqNum
  /-- `fsm` -/
  fsm : Fsm
  /-- `cur`, the frame in dispatch -/
  cur : WFrame
  /-- `pend`, the response awaiting submission -/
  pend : Option WFrame
  /-- `outcome` -/
  outcome : PollResult
  /-- `ready` -/
  ready : Bool
  /-- `halt` -/
  halt : Halt
  /-- `hist`, oldest event first -/
  hist : List Event
  /-- `E.sending`, the TRANSPORT's frame in flight (R182) -/
  sending : Option WFrame
  /-- the input port `reset_cause` -/
  resetCause : Byte
  /-- the input port `poll_req` (R28; notes/assumptions/9.md) -/
  pollReq : ReqLine Unit
  /-- the input ports `sub_req`, `sub_*` -/
  subReq : ReqLine WFrame
  /-- the input ports `breq_req`, `breq_type`, `breq_dst` -/
  breqReq : ReqLine BreqArgs
  /-- the output port `enc_id` -/
  encId : WireId
  /-- the output ports `dec_*` -/
  decOut : DecOut
  /-- the configuration, written by no step (R10, R16; notes/assumptions/2.md) -/
  cfg : Cfg
  /-- the moves already chosen (R7; notes/assumptions/1.md) -/
  agenda : List Move
  /-- how many moves were taken from the free value `Config.draw` -/
  draws : Nat
deriving DecidableEq, Repr

/-- Why the machine has no step. Each is one of the spec's stuck states (93_implementation_defined.md I9, I10; R181)
or a state no run reaches; none is an error of the block, which has no trap (R170). Stopping is safe: the model
claims nothing of what follows. -/
inductive Fault where
  /-- SAFE. A step of SYS, BUS or SYNC after a terminal trigger (R202, R203; I10 "stuck"). Raised by every operation
  of those agents. -/
  | stuckTerminal
  /-- SAFE. A dispatch case while no frame is in dispatch (R19): not enabled. Raised by the dispatch cases; `step`
  never does it. -/
  | stuckNotDispatching
  /-- SAFE. A completion with nothing in flight (I9 "stuck"; R181). Raised by TXDONE.C. -/
  | stuckNothingInFlight
  /-- SAFE. The transmit-complete handler with no completion pending (R113): not enabled. Raised by TXDONE.H. -/
  | stuckNothingPending
  /-- SAFE. A second persistence answer (R181: the agent must answer exactly once; R192). Raised by INIT. -/
  | stuckAnsweredTwice
  /-- SAFE. A request whose data change before its acknowledge (R28, R181: held stable until acknowledge). Raised by
  SUBMIT, BREQ and the moves that present levels. -/
  | stuckRequestChanged
  /-- SAFE. A request lowered before its acknowledge (R28, R181: lowered after it). Raised by the moves that present
  levels. -/
  | stuckRequestWithdrawn
  /-- SAFE. The RESPOND state without a pending response: no run reaches it. Raised by `respondStep`. -/
  | stuckNoResponse
  /-- SAFE. A dispatch case given as a block operation: frames reach the dispatcher only through the RX FIFO (R53).
  Raised by `step`. -/
  | stuckNotAnOperation
deriving DecidableEq, Repr, Inhabited

/-- What the model refuses. -/
inductive Refusal where
  /-- SAFE. An instruction of the table that has no meaning yet. Raised by `exec` alone. -/
  | notModelled (mnemonic : String)
  /-- SAFE. The reset of one clock domain alone (R190; I20 "refuse": outside the model). Raised by `step`. -/
  | oneDomainReset (d : Domain)
deriving DecidableEq, Repr

/-- An all-zero frame: `zero_frame` of R131. -/
def zeroFrame : WFrame := { id := 0, dlc := 0, data := 0 }

/-- The state after reset, before INIT (R30, R191). -/
def State.reset : State :=
  { rxMem := []
    rxWr := 0
    rxRd := 0
    rxWrV := 0
    rxRdV := 0
    txMem := []
    txWr := 0
    txRd := 0
    txInflight := false
    txdonePending := false
    nodeAddr := 0
    seq := 0
    fsm := .idle
    -- DESIGN CHOICE: R30 leaves it unspecified (notes/assumptions/4.md)
    cur := zeroFrame
    pend := none
    -- DESIGN CHOICE: R30 leaves it unspecified (notes/assumptions/5.md)
    outcome := .nothingPending
    ready := false
    halt := .run
    hist := []
    sending := none
    resetCause := Config.resetCause
    -- DESIGN CHOICE: no request is raised (notes/assumptions/9.md)
    pollReq := .low
    subReq := .low
    breqReq := .low
    -- DESIGN CHOICE: the codec's inputs are 0 (notes/assumptions/8.md)
    encId := 0
    decOut := { prio := 0, typ := 0, seq := 0, dst := 0, src := 0 }
    cfg := Config.launch
    agenda := []
    draws := 0 }

end Sys2Proof.Machine
end

