-- ==== Sys2Proof/Machine/Flags.lean ====
section
/-! DEFINITION. The status the block derives from its state (R21): the FIFO predicates of R100 and the levels on the
status ports (R27, R29). There are no condition codes. -/

namespace Sys2Proof.Machine

/-- `inc(x) = (x + 1) mod C`, for a FIFO of `C = 2 ^ n` slots (R100). -/
def cursorInc {n : Nat} (x : BitVec n) : BitVec n := x + 1

/-- `empty(wr, rd)` (R100). -/
def fifoEmpty {n : Nat} (wr rd : BitVec n) : Bool := wr == rd

/-- `full(wr, rd)`: one slot is always kept empty (R100). -/
def fifoFull {n : Nat} (wr rd : BitVec n) : Bool := cursorInc wr == rd

/-- `count(wr, rd) = (wr - rd) mod C` (R100). -/
def fifoCount {n : Nat} (wr rd : BitVec n) : Nat := (wr - rd).toNat

/-- The level on `halted` (R27). -/
def haltedLevel (s : State) : Bool := s.halt != .run

/-- The level on `rst_trigger` (R27, R135). -/
def rstTriggerLevel (s : State) : Bool := s.halt == .resetTriggered

/-- The level on `upg_trigger` (R27, R144). -/
def upgTriggerLevel (s : State) : Bool := s.halt == .upgradeTriggered

/-- The value on `node_addr_o` (R29). -/
def nodeAddrPort (s : State) : Addr := s.nodeAddr

/-- A request is raised at the port and not accepted yet (R28). -/
def lineRaised {α : Type} : ReqLine α → Bool
  | .low => false
  | .raised _ => true
  | .taken _ => false

/-- No accepted poll waits for its acknowledge: a poll is in progress in DISPATCH and RESPOND (R19, R130), and one that both
resets cut short is owed none (DESIGN CHOICE, notes/assumptions/29.md). A submit's
and a built request's acknowledge comes in the step that accepts it (R94, R111). -/
def pollAnswered (s : State) : Bool := s.fsm == .idle

/-- The SYS domain accepts requests: `S.fsm = IDLE` and `S.ready = 1` (R28, with `S.halt = RUN` checked apart). -/
def acceptsRequests (s : State) : Bool := s.ready && s.fsm == .idle

end Sys2Proof.Machine
end

