-- ==== Sys2Proof/Machine/Ops.lean ====
section
/-! DEFINITION. The named operations: slot memory (R13, R49), FIFO push and pop (R103, R104, R107), output events
(R20), the transmit path (R111), the response and the error response (R149, R150), the outcomes of a poll (R152), and
the RESPOND step (R151). -/

namespace Sys2Proof.Machine

abbrev Result := Host.Outcome State Fault Refusal

/-! ### Slot memory -/

/-- The entry written last to slot `k`, if any. -/
def Memory.find : Memory → Nat → Option Entry
  | [], _ => none
  | (j, e) :: m, k => if j = k then some e else Memory.find m k

/-- `MemRead(F, k)` (R13); a slot not yet written holds the free value (I1). -/
def Memory.read (free : Nat → Entry) (m : Memory) (k : Nat) : Entry := (Memory.find m k).getD (free k)

/-- `MemWrite(F, k, e)` (R13). -/
def Memory.write : Memory → Nat → Entry → Memory
  | [], k, e => [(k, e)]
  | (j, d) :: m, k, e =>
    if k < j then (k, e) :: (j, d) :: m
    else if k = j then (k, e) :: m
    else (j, d) :: Memory.write m k e

/-- The slots of a list rise strictly. -/
def Memory.rising : Memory → Bool
  | [] => true
  | (j, _) :: m => (match m with
    | [] => true
    | (k, _) :: _ => decide (j < k)) && Memory.rising m

/-- The canonical form of a FIFO's storage of `cap` slots: slots strictly rising, each below `cap`. -/
def Memory.wf (cap : Nat) (m : Memory) : Bool := Memory.rising m && m.all (fun p => decide (p.1 < cap))

/-! ### FIFO push and pop -/

/-- `try_push` (R103): the storage and write cursor after the push; `none` if full. -/
def tryPush {n : Nat} (m : Memory) (wr rdSeen : BitVec n) (e : Entry) : Option (Memory × BitVec n) :=
  if cursorInc wr = rdSeen then none else some (Memory.write m wr.toNat e, cursorInc wr)

/-- `try_pop` (R104): the entry and the read cursor after the pop; `none` if empty. -/
def tryPop {n : Nat} (free : Nat → Entry) (m : Memory) (rd wrSeen : BitVec n) :
    Option (Entry × BitVec n) :=
  if rd = wrSeen then none else some (Memory.read free m rd.toNat, cursorInc rd)

/-- Under `EXACT` a step that may write `RX.wr` also writes its view (R105, R110). -/
def publishWr (s : State) : State := { s with rxWrV := if s.cfg.cdcView = .exact then s.rxWr else s.rxWrV }

/-- Under `EXACT` a step that may write `RX.rd` also writes its view (R107, R110). -/
def publishRd (s : State) : State := { s with rxRdV := if s.cfg.cdcView = .exact then s.rxRd else s.rxRdV }

/-- The push of the receive handler (R105): a frame that finds the FIFO full is dropped. -/
def rxPush (w : WFrame) (s : State) : State :=
  match tryPush s.rxMem s.rxWr s.rxRdV (pack w) with
  | none => publishWr s
  | some (m, wr) => publishWr { s with rxMem := m, rxWr := wr }

/-- `rx_pop()` (R107): the entry, if the SYS view shows one, and the state after. -/
def rxPop (s : State) : Option Entry × State :=
  match tryPop Config.freeRxSlot s.rxMem s.rxRd s.rxWrV with
  | none => (none, publishRd s)
  | some (e, rd) => (some e, publishRd { s with rxRd := rd })

/-! ### Output events -/

/-- `hist += e` (R20). -/
def emit (e : Event) (s : State) : State := { s with hist := s.hist ++ [e] }

/-- The block starts a transmission and the TRANSPORT takes it: `hist += TxStart(w)`, `E.sending <- some w`
(R111, R113, R182). -/
def startTx (w : WFrame) (s : State) : State :=
  { s with hist := s.hist ++ [.txStart w], sending := some w }

/-! ### The transmit path -/

/-- `tx_path(w)` (R111): the result and the state after. -/
def txPath (w : WFrame) (s : State) : TxResult × State :=
  if s.txInflight = false then
    (.sent, { startTx (clampFrame w) s with txInflight := true })
  else
    match tryPush s.txMem s.txWr s.txRd (pack (clampFrame w)) with
    | some (m, wr) => (.queued, { s with txMem := m, txWr := wr })
    | none => (.rejectedFull, s)

/-! ### The outcomes of a dispatch case -/

/-- A dispatch case is one SYS step, enabled in the DISPATCH state of a running block (R130, R132). -/
def dispatching (s : State) (body : State → State) : Result :=
  if s.halt ≠ .run then .fault .stuckTerminal
  else if s.fsm ≠ .dispatch then .fault .stuckNotDispatching
  else .next (body s)

/-- The response frame of `respond(typ, payload)` to request `f` on the node as it stands in `s` (R149). -/
def responseFrame (t : MsgType) (payload : List Byte) (f : Frame) (s : State) : WFrame :=
  { id := encodeFields s.cfg.corePrio (typeCodeOf s.cfg t) f.seq f.src s.nodeAddr
    dlc := BitVec.ofNat 4 payload.length
    data := packData payload }

/-- `respond(typ, payload)` (R149). -/
def respond (t : MsgType) (payload : List Byte) (f : Frame) (s : State) : State :=
  { s with pend := some (responseFrame t payload f s), outcome := .handled, fsm := .respond }

/-- The response to a request of type `req`, whose type `resp_type` gives (R93). -/
def reply (req : MsgType) (payload : List Byte) (f : Frame) (s : State) : State :=
  respond ((respType req).getD .error) payload f s

/-- `error(e)` (R150, R171): the block's one way of raising an error to its peer. It saves the request's sequence
number and requester in the ERROR frame; there is no vector and no saved program state (R170). -/
def raiseError (e : ErrName) (f : Frame) (s : State) : State :=
  respond .error [errCodeOf s.cfg e] f s

/-- A poll that ends without a response: `hist += PollAck(r, NONE, w)`, `S.fsm <- IDLE` (R132, R137, R145, R147). -/
def finishPoll (r : PollResult) (w : WFrame) (s : State) : State :=
  { s with hist := s.hist ++ [.pollAck r .none w], fsm := .idle }

/-- Delegation (R137, R141, R145): the frame goes to the caller on `poll_*`. -/
def delegate (f : Frame) (s : State) : State := finishPoll .delegate (wire f) s

/-- A terminal trigger (R135, R144, R173). -/
def trigger (h : Halt) (e : Event) (s : State) : State :=
  { s with hist := s.hist ++ [e], halt := h, fsm := .terminal }

/-- The node-address write of R138, one critical section (R55): the address, its port and the persistence store. -/
def storeNodeAddr (v : Addr) (s : State) : State :=
  { s with nodeAddr := v, hist := s.hist ++ [.persistStore v] }

/-- SET_REG of NODE_ID (R138): size, then value, then the write and its response from the new address. -/
def writeNodeId (f : Frame) (s : State) : State :=
  if f.dlc ≠ 3 then raiseError .registerSizeMismatch f s
  else if addrRejected (addrOperand f) then raiseError s.cfg.addrRejectCode f s
  else reply .setReg (nodeIdChangedPayload (addrOperand f)) f (storeNodeAddr (addrOperand f) s)

/-- GET_REG of an assigned standard register (R142). -/
def readRegister (f : Frame) (s : State) : State :=
  reply .getReg
    (dataByte f.data 0 :: regValue s.cfg s.nodeAddr s.resetCause (regKindOf s.cfg (regIndex f))) f s

/-! ### The RESPOND step -/

/-- The response status of a transmit result (R151). -/
def respStatus : TxResult → RespStatus
  | .sent => .sent
  | .queued => .queued
  | .rejectedFull => .dropped

/-- The response is submitted and the poll acknowledged (R151). -/
def sendResponse (w : WFrame) (s : State) : State :=
  let r := txPath w s
  { r.2 with
    hist := r.2.hist ++ [.pollAck .handled (respStatus r.1) zeroFrame], pend := none, fsm := .idle }

/-- Respond, one SYS step and a critical section (R151). -/
def respondStep (s : State) : Result :=
  match s.pend with
  | none => .fault .stuckNoResponse
  | some w => .next (sendResponse w s)

/-! ### Requests -/

/-- A request port on which the requester presents `a` (R28); `none` where it held other data and no acknowledge has
come. `answered`: the request accepted last is acknowledged. -/
def raiseLine {α : Type} [DecidableEq α] (line : ReqLine α) (answered : Bool) (a : α) :
    Option (ReqLine α) :=
  match line with
  | .low => some (.raised a)
  | .raised b => if a = b then some (.raised b) else none
  | .taken b =>
    if answered = true then some (.raised a)
    else if a = b then some (.taken b)
    else none

/-- A request port on which the requester presents a low level (R28, R200); `none` where no acknowledge has come. A
block that has stopped gives none (R203), and the level is free. -/
def lowerLine {α : Type} (line : ReqLine α) (answered stopped : Bool) : Option (ReqLine α) :=
  match line with
  | .low => some .low
  | .raised _ => if stopped = true then some .low else none
  | .taken _ => if answered = true ∨ stopped = true then some .low else none

/-- The requester presents a level at a request port: `some a` high with data `a`, `none` low (R28). -/
def driveRequest {α : Type} [DecidableEq α] (line : ReqLine α) (answered : Bool)
    (setLine : ReqLine α → State → State) (level : Option α) (s : State) : Result :=
  match level with
  | some a => match raiseLine line answered a with
    | some l => .next (setLine l s)
    | none => .fault .stuckRequestChanged
  | none => match lowerLine line answered (haltedLevel s) with
    | some l => .next (setLine l s)
    | none => .fault .stuckRequestWithdrawn

/-- A SYS request with data `a` (R28): it is presented at its port, and accepted there where the block samples the
port (IDLE and ready); elsewhere it waits (R194). -/
def request {α : Type} [DecidableEq α] (line : ReqLine α) (answered : Bool)
    (setLine : ReqLine α → State → State) (a : α) (accept : State → State) (s : State) : Result :=
  if s.halt ≠ .run then .fault .stuckTerminal
  else match raiseLine line answered a with
    | none => .fault .stuckRequestChanged
    | some l =>
      if acceptsRequests s = true then .next (accept (setLine (.taken a) s))
      else .next (setLine l s)

/-- Writes the port `poll_req`. -/
def setPollReq (l : ReqLine Unit) (s : State) : State := { s with pollReq := l }

/-- Writes the ports `sub_req`, `sub_*`. -/
def setSubReq (l : ReqLine WFrame) (s : State) : State := { s with subReq := l }

/-- Writes the ports `breq_req`, `breq_type`, `breq_dst`. -/
def setBreqReq (l : ReqLine BreqArgs) (s : State) : State := { s with breqReq := l }

/-- Fetch (R131). -/
def fetch (s : State) : State :=
  match rxPop s with
  | (none, s') => emit (.pollAck .nothingPending .none zeroFrame) s'
  | (some e, s') => { s' with cur := unpack e, pend := none, fsm := .dispatch }

/-- `build_request` (R94): the identifier carries the counter's value before the increment. -/
def buildRequest (typ : TypeCode) (dst : Addr) (s : State) : State :=
  { s with
    seq := s.seq + 1
    hist := s.hist ++ [.breqAck (encodeFields s.cfg.corePrio typ s.seq dst s.nodeAddr)] }

/-- `submit(frame)` (R111): the transmit path and its acknowledge. -/
def submitFrame (w : WFrame) (s : State) : State :=
  let r := txPath w s
  emit (.subAck r.1) r.2

/-- The transmit-complete handler's effect (R113): the next queued frame is started, or the channel goes idle. -/
def completeTx (s : State) : State :=
  match tryPop Config.freeTxSlot s.txMem s.txRd s.txWr with
  | some (e, rd) => startTx (unpack e) { s with txdonePending := false, txRd := rd }
  | none => { s with txdonePending := false, txInflight := false }

/-- A step of BUS or SYNC: none is taken after a terminal trigger (R203). -/
def whileRunning (s : State) (body : State → State) : Result :=
  if s.halt ≠ .run then .fault .stuckTerminal else .next (body s)

/-- The state after both resets (R190): R30's, on the same configuration; the levels that the environment and the
APP drive are not the block's to reset (notes/assumptions/15.md). DESIGN CHOICE, R28 and R190 are silent on a poll accepted
and not yet acknowledged when the resets come: the port stays taken, IDLE counts as its acknowledge, and it is no new
request until it is presented high again; a raised request goes on waiting (notes/assumptions/29.md). -/
def afterReset (s : State) : State :=
  { State.reset with
    cfg := s.cfg, resetCause := s.resetCause, pollReq := s.pollReq
    subReq := s.subReq, breqReq := s.breqReq, encId := s.encId
    decOut := s.decOut, agenda := s.agenda, draws := s.draws }

/-- The identifier of the last frame `build_request` built (R94). -/
def lastBuilt : List Event → Option WireId
  | [] => none
  | e :: es => match lastBuilt es with
    | some id => some id
    | none => match e with
      | .breqAck id => some id
      | _ => none

end Sys2Proof.Machine
end

