-- ==== Sys2Proof/Machine/Broadcast.lean ====
section
/-! DEFINITION. The meanings of the source check and of rule 1, the broadcast subgroup (R132, R134 to R136). -/

namespace Sys2Proof.Machine

/-- REJECT_SRC_BCAST (R132): dropped, no response, `PollAck(REJECTED, NONE, zero_frame)`. -/
def execRejectSrcBcast (_f : Frame) (s : State) : Result :=
  dispatching s (finishPoll .rejected zeroFrame)

/-- DISCOVER (R134): the NODE_INFO response. -/
def execDiscover (f : Frame) (s : State) : Result :=
  dispatching s (fun s => reply .discover (nodeInfoPayload s.cfg) f s)

/-- NODE_RESET (R135): the reset trigger, terminal, no response and no acknowledge. -/
def execNodeReset (_f : Frame) (s : State) : Result :=
  dispatching s (trigger .resetTriggered .resetTrigger)

/-- BCAST_INVALID (R136): ERROR `INVALID_MSG`. -/
def execBcastInvalid (f : Frame) (s : State) : Result :=
  dispatching s (raiseError .invalidMsg f)

end Sys2Proof.Machine
end

