-- ==== Sys2Proof/Machine/Bus.lean ====
section
/-! DEFINITION. The meanings of the BUS, TRANSPORT and SYNC steps (R105, R108, R109, R113, R183). -/

namespace Sys2Proof.Machine

/-- RX (R105): the receive handler; the frame is stored unchecked (R106), its dlc clamped (R80). -/
def execRx (w : WFrame) (s : State) : Result := whileRunning s (rxPush (clampFrame w))

/-- TXDONE.C (R183): a step of the TRANSPORT, not stopped by a terminal trigger (notes/assumptions/14.md). -/
def execTxdoneC (s : State) : Result :=
  match s.sending with
  | none => .fault .stuckNothingInFlight
  | some _ => .next { s with sending := none, txdonePending := true }

/-- TXDONE.H (R113): the transmit-complete handler. -/
def execTxdoneH (s : State) : Result :=
  if s.halt ≠ .run then .fault .stuckTerminal
  else if s.txdonePending = false then .fault .stuckNothingPending
  else .next (completeTx s)

/-- SYNC.W (R108): the copy of `RX.wr`; where the view equals it nothing changes (R84: a no-op). -/
def execSyncW (s : State) : Result := whileRunning s (fun s => { s with rxWrV := s.rxWr })

/-- SYNC.R (R109): the copy of `RX.rd`; where the view equals it nothing changes (R84: a no-op). -/
def execSyncR (s : State) : Result := whileRunning s (fun s => { s with rxRdV := s.rxRd })

end Sys2Proof.Machine
end

