-- ==== Sys2Proof/Machine/CodecPorts.lean ====
section
/-! DEFINITION. The meanings of the codec's operations (R90, R91): combinational ports, no clock, not stopped by a
terminal trigger (notes/assumptions/8.md). -/

namespace Sys2Proof.Machine

/-- ENCODE (R90): `enc_id` is the identifier of the fields presented. -/
def execEncode (prio typ seq dst src : Nat) (s : State) : Result :=
  .next { s with encId := encodeId prio typ seq dst src }

/-- DECODE (R91): `dec_*` are the slices of the identifier presented. -/
def execDecode (id : WireId) (s : State) : Result :=
  .next { s with
    decOut := { prio := idPrio id, typ := idType id, seq := idSeq id, dst := idDst id, src := idSrc id } }

end Sys2Proof.Machine
end

