-- ==== Sys2Proof/Machine/NodeGroup.lean ====
section
/-! DEFINITION. The meanings of rule 2, the node group (R137 to R146). -/

namespace Sys2Proof.Machine

/-- SET_REG (R137): the index dispatch, for every index. -/
def execSetReg (f : Frame) (s : State) : Result :=
  dispatching s (fun s =>
    if nStdRegs ≤ regIndex f then delegate f s
    else match regKindOf s.cfg (regIndex f) with
      | .nodeId => writeNodeId f s
      | .unassigned => raiseError .invalidRegister f s
      | _ => raiseError .readOnlyRegister f s)

/-- SET_REG.NODE_ID (R138). -/
def execSetRegNodeId (f : Frame) (s : State) : Result := dispatching s (writeNodeId f)

/-- SET_REG.READ_ONLY (R139): the payload's length and content are not inspected. -/
def execSetRegReadOnly (f : Frame) (s : State) : Result :=
  dispatching s (raiseError .readOnlyRegister f)

/-- SET_REG.UNASSIGNED (R140). -/
def execSetRegUnassigned (f : Frame) (s : State) : Result :=
  dispatching s (raiseError .invalidRegister f)

/-- GET_REG (R141): the index dispatch, for every index. -/
def execGetReg (f : Frame) (s : State) : Result :=
  dispatching s (fun s =>
    if nStdRegs ≤ regIndex f then delegate f s
    else if regKindOf s.cfg (regIndex f) = .unassigned then raiseError .invalidRegister f s
    else readRegister f s)

/-- GET_REG.STANDARD (R142). -/
def execGetRegStandard (f : Frame) (s : State) : Result := dispatching s (readRegister f)

/-- GET_REG.UNASSIGNED (R143). -/
def execGetRegUnassigned (f : Frame) (s : State) : Result :=
  dispatching s (raiseError .invalidRegister f)

/-- NODE_UPGRADE (R144): the upgrade trigger on a build that supports it, else an ERROR. -/
def execNodeUpgrade (f : Frame) (s : State) : Result :=
  dispatching s (fun s =>
    if s.cfg.upgradeSupported = true then trigger .upgradeTriggered .upgradeTrigger s
    else raiseError .bootloaderUnsupported f s)

/-- SET_BIT (R145). -/
def execSetBit (f : Frame) (s : State) : Result := dispatching s (delegate f)

/-- CLEAR_BIT (R145). -/
def execClearBit (f : Frame) (s : State) : Result := dispatching s (delegate f)

/-- TOGGLE_BIT (R145). -/
def execToggleBit (f : Frame) (s : State) : Result := dispatching s (delegate f)

/-- NODE_INVALID (R146): ERROR `INVALID_MSG`. -/
def execNodeInvalid (f : Frame) (s : State) : Result :=
  dispatching s (raiseError .invalidMsg f)

end Sys2Proof.Machine
end

