-- ==== Sys2Proof/Machine/OtherGroups.lean ====
section
/-! DEFINITION. The meanings of rules 3 and 4 (R147, R148). -/

namespace Sys2Proof.Machine

/-- REMOTE_PASS_THROUGH (R147): the frame goes to the caller, nothing is answered. -/
def execRemotePassThrough (f : Frame) (s : State) : Result :=
  dispatching s (finishPoll .passThrough (wire f))

/-- NO_MATCH (R148): ERROR `INVALID_MSG`. -/
def execNoMatch (f : Frame) (s : State) : Result :=
  dispatching s (raiseError .invalidMsg f)

end Sys2Proof.Machine
end

