-- ==== Sys2Proof/Machine/Requests.lean ====
section
/-! DEFINITION. The meanings of the SYS domain's requests and of start-up (R94, R111, R131, R192). -/

namespace Sys2Proof.Machine

/-- BREQ (R94). -/
def execBreq (typ : TypeCode) (dst : Addr) (s : State) : Result :=
  request s.breqReq true setBreqReq { typ := typ, dst := dst } (buildRequest typ dst) s

/-- POLL (R130): its first step, the fetch of R131; the later steps are the SYS domain's (Machine/Agents.lean). -/
def execPoll (s : State) : Result :=
  request s.pollReq (pollAnswered s) setPollReq () fetch s

/-- SUBMIT (R111), one SYS step and a critical section. -/
def execSubmit (w : WFrame) (s : State) : Result :=
  request s.subReq true setSubReq w (submitFrame w) s

/-- INIT (R192): the persistence answer is loaded through `norm` and the block becomes ready. -/
def execInit (ans : Option Addr) (s : State) : Result :=
  if s.halt ≠ .run then .fault .stuckTerminal
  else if s.ready = true then .fault .stuckAnsweredTwice
  else .next { s with hist := s.hist ++ [.persistLoadReq], nodeAddr := normAddr ans, ready := true }

end Sys2Proof.Machine
end

