-- ==== Sys2Proof/Machine/Dispatch.lean ====
section
/-! DEFINITION. The meaning of every instruction, one arm each. -/

namespace Sys2Proof.Machine

def exec (i : Instr) (s : State) : Host.Outcome State Fault Refusal :=
  match i with
  | .rejectSrcBcast f => Sys2Proof.Machine.execRejectSrcBcast f s
  | .discover f => Sys2Proof.Machine.execDiscover f s
  | .nodeReset f => Sys2Proof.Machine.execNodeReset f s
  | .bcastInvalid f => Sys2Proof.Machine.execBcastInvalid f s
  | .setReg f => Sys2Proof.Machine.execSetReg f s
  | .setRegNodeId f => Sys2Proof.Machine.execSetRegNodeId f s
  | .setRegReadOnly f => Sys2Proof.Machine.execSetRegReadOnly f s
  | .setRegUnassigned f => Sys2Proof.Machine.execSetRegUnassigned f s
  | .getReg f => Sys2Proof.Machine.execGetReg f s
  | .getRegStandard f => Sys2Proof.Machine.execGetRegStandard f s
  | .getRegUnassigned f => Sys2Proof.Machine.execGetRegUnassigned f s
  | .nodeUpgrade f => Sys2Proof.Machine.execNodeUpgrade f s
  | .setBit f => Sys2Proof.Machine.execSetBit f s
  | .clearBit f => Sys2Proof.Machine.execClearBit f s
  | .toggleBit f => Sys2Proof.Machine.execToggleBit f s
  | .nodeInvalid f => Sys2Proof.Machine.execNodeInvalid f s
  | .remotePassThrough f => Sys2Proof.Machine.execRemotePassThrough f s
  | .noMatch f => Sys2Proof.Machine.execNoMatch f s
  | .encode prio typ seq dst src => Sys2Proof.Machine.execEncode prio typ seq dst src s
  | .decode id => Sys2Proof.Machine.execDecode id s
  | .breq typ dst => Sys2Proof.Machine.execBreq typ dst s
  | .poll => Sys2Proof.Machine.execPoll s
  | .submit w => Sys2Proof.Machine.execSubmit w s
  | .init ans => Sys2Proof.Machine.execInit ans s
  | .rx w => Sys2Proof.Machine.execRx w s
  | .txdoneC => Sys2Proof.Machine.execTxdoneC s
  | .txdoneH => Sys2Proof.Machine.execTxdoneH s
  | .syncW => Sys2Proof.Machine.execSyncW s
  | .syncR => Sys2Proof.Machine.execSyncR s

end Sys2Proof.Machine
end

