-- ==== Sys2Proof/Machine/Agents.lean ====
section
/-! DEFINITION. How the agents of R7 take their moves: the SYS domain's steps of a poll in progress (R130), the
sampling of the request ports (R28), the environment's moves, and the fetch of a table word
(notes/assumptions/1.md, 19.md). -/

namespace Sys2Proof.Machine

/-- The SYS domain advances the poll in progress (R130): the DISPATCH step runs the case the decoder gives the frame in
`S.cur` (R132, R133); the RESPOND step submits the response (R151). With no poll in progress its turn passes. -/
def sysStep (s : State) : Result :=
  if s.halt ≠ .run then .next s
  else match s.fsm with
    | .idle => .next s
    | .dispatch => exec (decodeFrame s.cfg s.nodeAddr s.cur) s
    | .respond => respondStep s
    | .terminal => .next s

/-- The SYS domain samples a request port (R28): a request raised there and not accepted yet is taken where the block
accepts requests, and waits elsewhere; a port that is low, or whose request is taken already, gives it nothing to do. -/
def serveRequest (p : ReqPort) (s : State) : Result :=
  match p with
  | .poll => match s.pollReq with
    | .raised _ => exec .poll s
    | .low => .next s
    | .taken _ => .next s
  | .submit => match s.subReq with
    | .raised w => exec (.submit w) s
    | .low => .next s
    | .taken _ => .next s
  | .breq => match s.breqReq with
    | .raised a => exec (.breq a.typ a.dst) s
    | .low => .next s
    | .taken _ => .next s

/-- The SUBMIT of a REQ (R84), with the identifier its BREQ was acknowledged with. DESIGN CHOICE, the spec is silent:
while a BREQ waits at its port, or where none was ever acknowledged, there is no `breq_id` and nothing is submitted
(notes/assumptions/28.md). -/
def submitBuilt (dlc : BitVec 4) (data : BitVec 64) (s : State) : Result :=
  if lineRaised s.breqReq = true then .next s
  else match lastBuilt s.hist with
    | some id => exec (.submit { id := id, dlc := dlc, data := data }) s
    | none => .next s

/-- One move of an agent. -/
def takeMove (m : Move) (s : State) : Result :=
  match m with
  | .op i => if i.frame?.isSome = true then .fault .stuckNotAnOperation else exec i s
  | .sys => sysStep s
  | .serve p => serveRequest p s
  | .drivePoll high =>
    driveRequest s.pollReq (pollAnswered s) setPollReq (if high = true then some () else none) s
  | .driveSub level => driveRequest s.subReq true setSubReq level s
  | .driveBreq level => driveRequest s.breqReq true setBreqReq level s
  | .submitBuilt dlc data => submitBuilt dlc data s
  | .setResetCause v => .next { s with resetCause := v }
  | .assertResets => .next (afterReset s)
  | .assertOneReset d => .refused (.oneDomainReset d)

/-- A move that nothing has chosen is any ENABLED one (R7): a drawn move that has no step is not taken. -/
def takeDrawn (m : Move) (s : State) : Result :=
  match takeMove m s with
  | .next t => .next t
  | .fault _ => .next s
  | .refused _ => .next s

/-- `s` with a frame in dispatch and the SYS domain to move next, so that the next step dispatches it. -/
def State.dispatchNext (s : State) (w : WFrame) : State :=
  { s with cur := w, fsm := .dispatch, halt := .run, agenda := .sys :: s.agenda }

/-- `s` with the frame of a table word in dispatch; a word the decoder refuses changes nothing. -/
def State.placeWord (s : State) (nbits w : Nat) : State :=
  match tableFrame nbits w with
  | some f => s.dispatchNext f
  | none => s

end Sys2Proof.Machine
end

