-- ==== Sys2Proof/Machine/Step.lean ====
section
/-! DEFINITION. One step of the machine, and the placing of a table word where the next step reads it. -/

namespace Sys2Proof.Machine

/-- One atomic step (R7): the first move of the agenda, or, with nothing chosen, a drawn one. -/
def step (s : State) : Host.Outcome State Fault Refusal :=
  match s.agenda with
  | m :: rest => takeMove m { s with agenda := rest }
  | [] => takeDrawn (Config.draw s.draws) { s with draws := s.draws + 1 }

/-- `s` with a word of spec/opcode_table.json stored where `step` reads its next instruction: the dispatcher's `cur`
(R131), in the DISPATCH state, with the SYS domain to move (notes/assumptions/19.md). -/
def State.withFetchWord (s : State) (nbits w : Nat) : State := s.placeWord nbits w

end Sys2Proof.Machine
end

