-- ==== Sys2Proof/Machine/Ports.lean ====
section
/-! DEFINITION. The ports of R27: the result codes (R81, R82), the values on the output ports in the clock of a step,
and the operations that values on the input ports present. -/

namespace Sys2Proof.Machine

/-- The `poll_result` code (R81). -/
def pollResultCode : PollResult → BitVec 3
  | .nothingPending => 0
  | .handled => 1
  | .delegate => 2
  | .passThrough => 3
  | .rejected => 4

/-- The `poll_resp` code (R81). -/
def respStatusCode : RespStatus → BitVec 2
  | .none => 0
  | .sent => 1
  | .queued => 2
  | .dropped => 3

/-- The `sub_result` code (R82). -/
def txResultCode : TxResult → BitVec 2
  | .sent => 1
  | .queued => 2
  | .rejectedFull => 3

/-- The output ports (R27). -/
structure OutPorts where
  txStart : Bool
  txFrame : WFrame
  nodeAddrO : Addr
  pollAck : Bool
  pollResult : BitVec 3
  pollResp : BitVec 2
  pollFrame : WFrame
  subAck : Bool
  subResult : BitVec 2
  breqAck : Bool
  breqId : WireId
  psLoadReq : Bool
  psStore : Bool
  psStoreAddr : Addr
  rstTrigger : Bool
  upgTrigger : Bool
  halted : Bool
  encId : WireId
  dec : DecOut
deriving DecidableEq, Repr

/-- FREE VALUES: what the data ports of a strobe carry in a clock without that strobe. R13, R27, R81, R82 and R94 give
them only with the strobe. DESIGN CHOICE (notes/assumptions/27.md): any value that R27, R81 and R82 let the port have at
all, so `poll_result` is never 5 to 7, `sub_result` never 0 and `tx_dlc` never above 8. -/
structure IdlePorts where
  txFrame : WFrame
  pollResult : PollResult
  pollResp : RespStatus
  subResult : TxResult
  breqId : WireId
  psStoreAddr : Addr
deriving DecidableEq, Repr

/-- The output ports with no strobe raised: the levels follow the state (R27, R29), `poll_id`, `poll_dlc` and
`poll_data` are 0 (R81: "0 otherwise"), and the other data ports carry the free values `idle`. -/
def quietPorts (idle : IdlePorts) (s : State) : OutPorts :=
  { txStart := false, txFrame := clampFrame idle.txFrame, nodeAddrO := nodeAddrPort s
    pollAck := false, pollResult := pollResultCode idle.pollResult
    pollResp := respStatusCode idle.pollResp, pollFrame := zeroFrame
    subAck := false, subResult := txResultCode idle.subResult
    breqAck := false, breqId := idle.breqId, psLoadReq := false, psStore := false
    psStoreAddr := idle.psStoreAddr
    rstTrigger := rstTriggerLevel s, upgTrigger := upgTriggerLevel s, halted := haltedLevel s
    encId := s.encId, dec := s.decOut }

/-- The strobe of one event (R20, R27). -/
def strobe (p : OutPorts) : Event → OutPorts
  | .txStart w => { p with txStart := true, txFrame := w }
  | .pollAck r st w =>
    { p with
      pollAck := true, pollResult := pollResultCode r, pollResp := respStatusCode st, pollFrame := w }
  | .subAck r => { p with subAck := true, subResult := txResultCode r }
  | .breqAck id => { p with breqAck := true, breqId := id }
  | .persistStore a => { p with psStore := true, psStoreAddr := a }
  | .persistLoadReq => { p with psLoadReq := true }
  | .resetTrigger => p
  | .upgradeTrigger => p

/-- The output ports in the clock of a step from `before` to `after`: the levels, with a strobe for each event the
step added (R20, R27), and the free values `idle` on the data ports of the others. -/
def outPorts (idle : IdlePorts) (before after : State) : OutPorts :=
  (after.hist.drop before.hist.length).foldl strobe (quietPorts idle after)

/-- The input ports in one clock (R27). -/
structure InPorts where
  rxValid : Bool
  rxFrame : WFrame
  txDone : Bool
  pollReq : Bool
  subReq : Bool
  subFrame : WFrame
  breqReq : Bool
  breqType : TypeCode
  breqDst : Addr
  psLoadValid : Bool
  psLoadSet : Bool
  psLoadAddr : Addr
  resetCause : Byte
  encPrio : BitVec 1
  encType : TypeCode
  encSeq : SeqNum
  encDst : Addr
  encSrc : Addr
  decId : WireId
deriving DecidableEq, Repr

/-- `m` if the strobe is high. -/
def ifHigh (b : Bool) (m : Move) : List Move := if b = true then [m] else []

/-- The moves that values on the input ports present: one per strobe that is high, and the levels, those of the request
ports among them. A request port is sampled by the SYS domain's own move (`Move.serve`, R28). Which comes first is open
(R28, R177): any order of the list is a run. -/
def presented (p : InPorts) : List Move :=
  [.setResetCause p.resetCause,
   .op (.encode p.encPrio.toNat p.encType.toNat p.encSeq.toNat p.encDst.toNat p.encSrc.toNat),
   .op (.decode p.decId)] ++
  ifHigh p.rxValid (.op (.rx p.rxFrame)) ++ ifHigh p.txDone (.op .txdoneC) ++
  ifHigh p.psLoadValid (.op (.init (if p.psLoadSet = true then some p.psLoadAddr else none))) ++
  [.drivePoll p.pollReq, .driveSub (if p.subReq = true then some p.subFrame else none),
   .driveBreq (if p.breqReq = true then some { typ := p.breqType, dst := p.breqDst } else none)]

/-- The input ports drive the block: their moves come before what the agenda holds. -/
def State.drivePorts (s : State) (p : InPorts) : State := { s with agenda := presented p ++ s.agenda }

end Sys2Proof.Machine
end

