-- ==== Sys2Proof/Machine/Program.lean ====
section
/-! DEFINITION. The notation of R83 and R84: its lines, their tokens, and the moves a line stands for
(notes/assumptions/19.md, 24.md). -/

namespace Sys2Proof.Machine

/-- A message type in the notation: a name, which stands for its `TYPE_CODE`, or a number (R83). -/
inductive TypeLit where
  | name (t : MsgType)
  | code (v : TypeCode)
deriving DecidableEq, Repr

/-- A `<frame>` of R83, by fields or raw; omitted data bytes are 0. -/
inductive FrameLit where
  | byFields (pri : BitVec 1) (typ : TypeLit) (seq : SeqNum) (dst src : Addr) (dlc : BitVec 4)
      (data : List Byte)
  | raw (id : WireId) (dlc : BitVec 4) (data : List Byte)
deriving DecidableEq, Repr

/-- A line of a program: the operations of R83 and the pseudo-operations of R84. -/
inductive Line where
  | init (ans : Option Addr)
  | rx (f : FrameLit)
  | poll
  | submit (f : FrameLit)
  | breq (t : TypeLit) (dst : Addr)
  | txdone
  | txdoneC
  | txdoneH
  | syncW
  | syncR
  | sync
  | req (t : TypeLit) (dst : Addr) (dlc : BitVec 4) (data : List Byte)
deriving DecidableEq, Repr

/-- The code a type stands for (R83). -/
def typeLitCode (c : Cfg) : TypeLit → TypeCode
  | .name t => typeCodeOf c t
  | .code v => v

/-- The wire frame a `<frame>` stands for (R83). -/
def frameLitFrame (c : Cfg) : FrameLit → WFrame
  | .byFields pri typ seq dst src dlc data =>
    { id := encodeFields pri (typeLitCode c typ) seq dst src, dlc := dlc, data := packData data }
  | .raw id dlc data => { id := id, dlc := dlc, data := packData data }

/-- The moves of a line, with no other move between them: a POLL is its fetch and the SYS steps of the poll it
started (R130); the pseudo-operations as R84 expands them. -/
def lineMoves (c : Cfg) : Line → List Move
  | .init ans => [.op (.init ans)]
  | .rx f => [.op (.rx (frameLitFrame c f))]
  | .poll => [.op .poll, .sys, .sys]
  | .submit f => [.op (.submit (frameLitFrame c f))]
  | .breq t dst => [.op (.breq (typeLitCode c t) dst)]
  | .txdone => [.op .txdoneC, .op .txdoneH]
  | .txdoneC => [.op .txdoneC]
  | .txdoneH => [.op .txdoneH]
  | .syncW => [.op .syncW]
  | .syncR => [.op .syncR]
  | .sync => [.op .syncW, .op .syncR]
  | .req t dst dlc data => [.op (.breq (typeLitCode c t) dst), .submitBuilt dlc (packData data)]

/-- A program loaded from outside the machine: its lines' moves come before what the agenda holds. -/
def State.load (s : State) (p : List Line) : State :=
  { s with agenda := p.flatMap (lineMoves s.cfg) ++ s.agenda }

/-! ### Tokens -/

/-- A word of the notation. -/
inductive Word where
  | init | unset | rx | poll | submit | breq | txdone | txdoneC | txdoneH | syncW | syncR | sync
  | req | pri | typ | seq | dst | src | id | dlc | data
deriving DecidableEq, Repr

/-- A token of the notation: a word (a key with its equals sign), a type name, a number, a bracketed byte list, or a
brace of a frame. Commas and blanks carry nothing. -/
inductive Token where
  | word (w : Word)
  | typeName (t : MsgType)
  | num (n : Nat)
  | bytes (bs : List Byte)
  | openFrame
  | closeFrame
deriving DecidableEq, Repr

/-- A type's token. -/
def typeToken : TypeLit → Token
  | .name t => .typeName t
  | .code v => .num v.toNat

/-- A frame's tokens (R83). -/
def frameTokens : FrameLit → List Token
  | .byFields pri typ seq dst src dlc data =>
    [.openFrame, .word .pri, .num pri.toNat, .word .typ, typeToken typ, .word .seq, .num seq.toNat,
     .word .dst, .num dst.toNat, .word .src, .num src.toNat, .word .dlc, .num dlc.toNat,
     .word .data, .bytes data, .closeFrame]
  | .raw id dlc data =>
    [.openFrame, .word .id, .num id.toNat, .word .dlc, .num dlc.toNat, .word .data, .bytes data,
     .closeFrame]

/-- A line's tokens (R83, R84). -/
def lineTokens : Line → List Token
  | .init none => [.word .init, .word .unset]
  | .init (some v) => [.word .init, .num v.toNat]
  | .rx f => .word .rx :: frameTokens f
  | .poll => [.word .poll]
  | .submit f => .word .submit :: frameTokens f
  | .breq t dst => [.word .breq, typeToken t, .num dst.toNat]
  | .txdone => [.word .txdone]
  | .txdoneC => [.word .txdoneC]
  | .txdoneH => [.word .txdoneH]
  | .syncW => [.word .syncW]
  | .syncR => [.word .syncR]
  | .sync => [.word .sync]
  | .req t dst dlc data =>
    [.word .req, typeToken t, .num dst.toNat, .num dlc.toNat, .bytes data]

/-- A number as a field of `w` bits; refused where it does not fit. -/
def parseField (w n : Nat) : Option (BitVec w) := if n < 2 ^ w then some (BitVec.ofNat w n) else none

/-- A type from its token. -/
def parseType : Token → Option TypeLit
  | .typeName t => some (.name t)
  | .num n => (parseField 5 n).map .code
  | _ => none

/-- At most eight payload bytes. -/
def parseBytes (bs : List Byte) : Option (List Byte) := if bs.length ≤ 8 then some bs else none

/-- A raw frame's parts. -/
def parseRaw (id dlc : Nat) (bs : List Byte) : Option FrameLit := do
  let id ← parseField 29 id
  let dlc ← parseField 4 dlc
  let bs ← parseBytes bs
  some (.raw id dlc bs)

/-- The parts of a frame by fields. -/
def parseByFields (pri : Nat) (t : Token) (seq dst src dlc : Nat) (bs : List Byte) :
    Option FrameLit := do
  let pri ← parseField 1 pri
  let t ← parseType t
  let seq ← parseField 5 seq
  let dst ← parseField 9 dst
  let src ← parseField 9 src
  let dlc ← parseField 4 dlc
  let bs ← parseBytes bs
  some (.byFields pri t seq dst src dlc bs)

/-- A frame from its tokens (R83); the whole list must be the frame. The data list may be left out. DESIGN CHOICE, R83 gives
no default for another field and no rule on order: a frame by fields has `pri`, `type`, `seq`, `dst`, `src` and `dlc`, all
of them, in the order of R83's example, and any other list is no frame (notes/assumptions/24.md). -/
def parseFrame : List Token → Option FrameLit
  | [.openFrame, .word .id, .num id, .word .dlc, .num dlc, .closeFrame] => parseRaw id dlc []
  | [.openFrame, .word .id, .num id, .word .dlc, .num dlc, .word .data, .bytes bs, .closeFrame] =>
    parseRaw id dlc bs
  | [.openFrame, .word .pri, .num pri, .word .typ, t, .word .seq, .num seq, .word .dst, .num dst,
     .word .src, .num src, .word .dlc, .num dlc, .closeFrame] => parseByFields pri t seq dst src dlc []
  | [.openFrame, .word .pri, .num pri, .word .typ, t, .word .seq, .num seq, .word .dst, .num dst,
     .word .src, .num src, .word .dlc, .num dlc, .word .data, .bytes bs, .closeFrame] =>
    parseByFields pri t seq dst src dlc bs
  | _ => none

/-- A line from its tokens (R83, R84); `none` for any other list. -/
def parseLine : List Token → Option Line
  | [.word .init, .word .unset] => some (.init none)
  | [.word .init, .num v] => (parseField 9 v).map (fun v => .init (some v))
  | .word .rx :: ts => (parseFrame ts).map .rx
  | [.word .poll] => some .poll
  | .word .submit :: ts => (parseFrame ts).map .submit
  | [.word .breq, t, .num dst] => do
    let t ← parseType t
    let dst ← parseField 9 dst
    some (.breq t dst)
  | [.word .txdone] => some .txdone
  | [.word .txdoneC] => some .txdoneC
  | [.word .txdoneH] => some .txdoneH
  | [.word .syncW] => some .syncW
  | [.word .syncR] => some .syncR
  | [.word .sync] => some .sync
  | [.word .req, t, .num dst, .num dlc, .bytes bs] => do
    let t ← parseType t
    let dst ← parseField 9 dst
    let dlc ← parseField 4 dlc
    let bs ← parseBytes bs
    some (.req t dst dlc bs)
  | _ => none

/-- The data lists of a frame hold at most eight bytes. -/
def FrameLit.wf : FrameLit → Bool
  | .byFields _ _ _ _ _ _ data => decide (data.length ≤ 8)
  | .raw _ _ data => decide (data.length ≤ 8)

/-- The data lists of a line hold at most eight bytes. -/
def Line.wf : Line → Bool
  | .init _ => true
  | .rx f => f.wf
  | .poll => true
  | .submit f => f.wf
  | .breq _ _ => true
  | .txdone => true
  | .txdoneC => true
  | .txdoneH => true
  | .syncW => true
  | .syncR => true
  | .sync => true
  | .req _ _ _ data => decide (data.length ≤ 8)

end Sys2Proof.Machine
end

