-- ==== Sys2Proof/Safety.lean ====
section
/-! DEFINITION. What claims are stated in: the ends of a run (R202), the content of the FIFOs (R114), the transmit
order (R115), and the invariants of R112 with the legal states of the dispatcher (R19). -/

namespace Sys2Proof.Safety

open Sys2Proof.Machine

/-- A terminal state (R202). -/
def terminal (s : State) : Bool := s.halt != .run

/-- A quiescent state (R202), but for the TRANSPORT's future deliveries; a port whose request is answered raises none
(R28: its requester lowers it). -/
def quiescent (s : State) : Bool :=
  s.halt == .run && s.fsm == .idle && !lineRaised s.pollReq && !lineRaised s.subReq &&
  !lineRaised s.breqReq && s.sending.isNone && !s.txdonePending && s.rxWrV == s.rxWr &&
  s.rxRdV == s.rxRd

/-- The entries of `k` slots from cursor `rd` on. -/
def entriesFrom {n : Nat} (free : Nat → Entry) (m : Memory) (rd : BitVec n) : Nat → List Entry
  | 0 => []
  | k + 1 => Memory.read free m rd.toNat :: entriesFrom free m (cursorInc rd) k

/-- The unread entries of the RX FIFO, oldest first (R114). -/
def rxQueue (s : State) : List Entry :=
  entriesFrom Config.freeRxSlot s.rxMem s.rxRd (fifoCount s.rxWr s.rxRd)

/-- The unsent entries of the TX FIFO, oldest first (R114). -/
def txQueue (s : State) : List Entry :=
  entriesFrom Config.freeTxSlot s.txMem s.txRd (fifoCount s.txWr s.txRd)

/-- The frames started on `tx_start`, oldest first (R20). -/
def started (h : List Event) : List WFrame :=
  h.filterMap (fun e => match e with
    | .txStart w => some w
    | _ => none)

/-- The frames started, followed by those queued: every frame the transmit path has taken, in order (R115). -/
def taken (s : State) : List WFrame := started s.hist ++ (txQueue s).map unpack

/-- The `k` slots from cursor `rd` on have been written. -/
def written {n : Nat} (m : Memory) (rd : BitVec n) : Nat → Bool
  | 0 => true
  | k + 1 => (Memory.find m rd.toNat).isSome && written m (cursorInc rd) k

/-- Every stored entry has a length count of at most 8 (R65, R80). -/
def dlcsOk (m : Memory) : Bool := m.all (fun p => decide ((unpack p.2).dlc ≤ maxDlc))

/-- An optional frame has a length count of at most 8. -/
def frameOk (w : Option WFrame) : Bool := w.all (fun w => decide (w.dlc ≤ maxDlc))

/-- What every step keeps: R112's invariants, the RX views' order (R51, R110), the FIFO storage's form, the legal
states of the dispatcher (R19) and the legal addresses (R9, R138, R193). -/
structure Inv (s : State) : Prop where
  /-- R112 item 1. -/
  pendingInflight : s.txdonePending = true → s.txInflight = true
  /-- R112 item 2. -/
  idleEmpty : s.txInflight = false → s.txWr = s.txRd
  /-- R112 item 3. -/
  inflightIff : s.txInflight = (s.sending.isSome || s.txdonePending)
  /-- R176: at most one completion is outstanding. -/
  oneOutstanding : (s.sending.isSome && s.txdonePending) = false
  /-- R112 item 4 and R58 item 2: `rd_v`, `rd`, `wr_v`, `wr` stand in this order in the FIFO's one turn. -/
  viewOrder : fifoCount s.rxWr s.rxRdV =
    fifoCount s.rxWr s.rxWrV + fifoCount s.rxWrV s.rxRd + fifoCount s.rxRd s.rxRdV
  /-- R110. -/
  exactViews : s.cfg.cdcView = .exact → s.rxWrV = s.rxWr ∧ s.rxRdV = s.rxRd
  /-- The form of `RX.mem` (R42). -/
  rxForm : Memory.wf 16 s.rxMem = true
  /-- The form of `TX.mem` (R43). -/
  txForm : Memory.wf 8 s.txMem = true
  /-- R24, R52: no unread RX slot is unwritten. -/
  rxWritten : written s.rxMem s.rxRd (fifoCount s.rxWr s.rxRd) = true
  /-- R24: no unsent TX slot is unwritten. -/
  txWritten : written s.txMem s.txRd (fifoCount s.txWr s.txRd) = true
  /-- R80: every stored length count is in range. -/
  rxDlcs : dlcsOk s.rxMem = true
  /-- R80. -/
  txDlcs : dlcsOk s.txMem = true
  /-- R63: the frame in dispatch has a length count in range. -/
  curDlc : s.cur.dlc ≤ maxDlc
  /-- R63, R182: the frame in flight has a length count in range. -/
  sendingDlc : frameOk s.sending = true
  /-- R193, R138: the node never answers as the broadcast address. -/
  addrLegal : s.nodeAddr ≠ bcast
  /-- R19: a response is pending exactly in the RESPOND state. -/
  respondPend : (s.fsm = .respond ↔ s.pend.isSome = true)
  /-- R28: `poll_req` is held high from the fetch to the acknowledge. -/
  pollHeld : s.fsm = .dispatch ∨ s.fsm = .respond → s.pollReq = .taken ()
  /-- R149: a pending response is a handled request's. -/
  respondHandled : s.fsm = .respond → s.outcome = .handled
  /-- R19, R202: TERMINAL is the state after a trigger. -/
  terminalHalt : (s.fsm = .terminal ↔ s.halt ≠ .run)
  /-- R194, R195: before INIT no SYS operation has run and nothing was sent. -/
  notReady : s.ready = false →
    s.fsm = .idle ∧ s.txInflight = false ∧ s.nodeAddr = 0 ∧ s.seq = 0

/-! ### The rules' own words, for statements -/

/-- The high byte of a 16-bit value, by division (R46). -/
def hi (v : BitVec 16) : Byte := BitVec.ofNat 8 (v.toNat / 256)

/-- The low byte of a 16-bit value, by remainder (R46). -/
def lo (v : BitVec 16) : Byte := BitVec.ofNat 8 (v.toNat % 256)

/-- `s` with a response to `f` pending, of type code `t` and payload `p`, as R149 writes it. -/
def answered (t : TypeCode) (p : List Byte) (f : Frame) (s : State) : State :=
  { s with
    pend := some { id := encodeFields s.cfg.corePrio t f.seq f.src s.nodeAddr
                   dlc := BitVec.ofNat 4 p.length, data := packData p }
    outcome := .handled
    fsm := .respond }

/-- `s` with an ERROR response pending, as R150 writes it. -/
def answeredError (code : Byte) (f : Frame) (s : State) : State :=
  answered s.cfg.typeCode.error [code] f s

/-- `s` with the poll ended without a response: `PollAck(r, NONE, w)`. -/
def acknowledged (r : PollResult) (w : WFrame) (s : State) : State :=
  { s with hist := s.hist ++ [.pollAck r .none w], fsm := .idle }

/-- The bytes of a standard register (R23, R142), row by row. -/
def registerBytes (c : Cfg) (addr : Addr) (cause : Byte) : RegKind → List Byte
  | .nodeType => [hi c.nodeType, lo c.nodeType]
  | .hwRevision => [c.hwRevision]
  | .fwVersion => [hi c.versionMajor, lo c.versionMajor, hi c.versionMinor, lo c.versionMinor]
  | .buildDesc => (List.range 6).map (fun k => c.buildDesc.getD k 0)
  | .mcuId => [c.mcuId]
  | .serialNumber => [0, 0, 0, 0]
  | .resetCause => [cause]
  | .nodeId => [BitVec.ofNat 8 (addr.toNat / 256), BitVec.ofNat 8 (addr.toNat % 256)]
  | .unassigned => []

/-- The frame is one a SET_REG row of rule 2 takes (R133, R137). -/
def setRegRow (s : State) (f : Frame) : Prop :=
  f.src ≠ bcast ∧ f.dst = s.nodeAddr ∧ f.typ = s.cfg.typeCode.setReg ∧ 1 < f.dlc

/-- The frame is one a GET_REG row of rule 2 takes (R133, R141). -/
def getRegRow (s : State) (f : Frame) : Prop :=
  f.src ≠ bcast ∧ f.dst = s.nodeAddr ∧ f.typ = s.cfg.typeCode.getReg ∧ f.dlc = 1

/-- How many poll acknowledges a list of events holds. -/
def pollAcks (h : List Event) : Nat :=
  (h.filter (fun e => match e with
    | .pollAck _ _ _ => true
    | _ => false)).length

/-- Two wire frames that differ at most in data bytes at index `dlc` and above (I3). -/
def sameWireUpToUnused (v w : WFrame) : Prop :=
  v.id = w.id ∧ v.dlc = w.dlc ∧ ∀ k, k < v.dlc.toNat → dataByte v.data k = dataByte w.data k

/-- Two events that differ at most in the unused data bytes of a frame handed over on `poll_*`. -/
def sameEventUpToUnused (d e : Event) : Prop :=
  d = e ∨ ∃ r st v w, d = .pollAck r st v ∧ e = .pollAck r st w ∧ sameWireUpToUnused v w

/-- Two frames that differ at most in data bytes at index `dlc` and above (I3). -/
def sameUpToUnused (f g : Frame) : Prop :=
  f.prio = g.prio ∧ f.typ = g.typ ∧ f.seq = g.seq ∧ f.dst = g.dst ∧ f.src = g.src ∧
  f.dlc = g.dlc ∧ ∀ k, k < f.dlc.toNat → dataByte f.data k = dataByte g.data k

end Sys2Proof.Safety
end

