-- ==== Sys2Proof/Certificates/Slice0/Obligations.lean ====
section
/-! DEFINITION. The statements for the provers. Each docstring names the rules of spec/ it formalises. -/

open Sys2Proof Sys2Proof.Machine Sys2Proof.Safety

/-! ### The codec -/

/-- R90: ENCODE completes in every state, drives only `enc_id` (held as a level: notes/assumptions/8.md), and the value
is the shift and mask expression. -/
def Obligations.EncodeIsShiftAndMask : Prop :=
  ∀ (p t q d r : Nat) (s : State),
    exec (.encode p t q d r) s = .next { s with encId := encodeId p t q d r } ∧
    (encodeId p t q d r).toNat =
      ((p &&& 0x1) <<< 28) ||| ((t &&& 0x1F) <<< 23) ||| ((q &&& 0x1F) <<< 18) |||
      ((d &&& 0x1FF) <<< 9) ||| (r &&& 0x1FF)

/-- R91, with the shifts of R62: DECODE completes in every state, drives only `dec_*` (held as levels:
notes/assumptions/8.md), and each field is its slice. -/
def Obligations.DecodeIsFieldSlices : Prop :=
  ∀ (id : WireId) (s : State), ∃ o : DecOut,
    exec (.decode id) s = .next { s with decOut := o } ∧
    o.prio.toNat = (id.toNat >>> 28) &&& 0x1 ∧ o.typ.toNat = (id.toNat >>> 23) &&& 0x1F ∧
    o.seq.toNat = (id.toNat >>> 18) &&& 0x1F ∧ o.dst.toNat = (id.toNat >>> 9) &&& 0x1FF ∧
    o.src.toNat = id.toNat &&& 0x1FF

/-- R92 (a), (b), (c): the codec's round trips, with out-of-range inputs masked. -/
def Obligations.CodecRoundTrips : Prop :=
  (∀ p t q d r : Nat,
    (idPrio (encodeId p t q d r)).toNat = p % 2 ∧ (idType (encodeId p t q d r)).toNat = t % 32 ∧
    (idSeq (encodeId p t q d r)).toNat = q % 32 ∧ (idDst (encodeId p t q d r)).toNat = d % 512 ∧
    (idSrc (encodeId p t q d r)).toNat = r % 512) ∧
  (∀ id : WireId, encodeId (idPrio id).toNat (idType id).toNat (idSeq id).toNat (idDst id).toNat
    (idSrc id).toNat = id)

/-- R95: `wire` encodes the five fields and `fields` decodes them, each keeping dlc and data; they are inverse to each
other. -/
def Obligations.WireAndFieldsInverse : Prop :=
  (∀ f : Frame, wire f =
    { id := encodeId f.prio.toNat f.typ.toNat f.seq.toNat f.dst.toNat f.src.toNat
      dlc := f.dlc, data := f.data }) ∧
  (∀ w : WFrame, fields w =
    { prio := idPrio w.id, typ := idType w.id, seq := idSeq w.id, dst := idDst w.id
      src := idSrc w.id, dlc := w.dlc, data := w.data }) ∧
  (∀ w : WFrame, wire (fields w) = w) ∧ (∀ f : Frame, fields (wire f) = f)

/-- R65, R66: the layout of an entry, its reassembly (the top three bits ignored), and `unpack(pack(w)) = w`. -/
def Obligations.EntryLayoutAndUnpack : Prop :=
  (∀ e : Entry,
    (unpack e).id.toNat = e.toNat / 2 ^ 92 % 32 * 2 ^ 24 + e.toNat / 2 ^ 84 % 256 * 2 ^ 16 +
      e.toNat / 2 ^ 76 % 256 * 2 ^ 8 + e.toNat / 2 ^ 68 % 256 ∧
    (unpack e).dlc.toNat = e.toNat / 2 ^ 64 % 16 ∧ (unpack e).data.toNat = e.toNat % 2 ^ 64) ∧
  ∀ w : WFrame,
    ((pack w) >>> 92).toNat = w.id.toNat / 2 ^ 24 ∧
    ((pack w) >>> 84).toNat % 256 = w.id.toNat / 2 ^ 16 % 256 ∧
    ((pack w) >>> 76).toNat % 256 = w.id.toNat / 2 ^ 8 % 256 ∧
    ((pack w) >>> 68).toNat % 256 = w.id.toNat % 256 ∧
    ((pack w) >>> 64).toNat % 16 = w.dlc.toNat ∧
    (pack w).toNat % 2 ^ 64 = w.data.toNat ∧ unpack (pack w) = w

/-! ### Decoding -/

/-- For every well-formed dispatch case, under every well-formed configuration, decoding its encoding gives it back:
no bit of an encoding is dropped. -/
def Obligations.DecodeEncodeAgree : Prop :=
  ∀ (c : Cfg) (self : Addr) (i : Instr), c.wf = true → i.frame?.isSome = true →
    i.wf c self = true →
    ∃ bs, encode i = some bs ∧ bs.length = 13 ∧ decodeBytes c self bs = .ok i

/-- R78: the decoder answers, for every frame, a dispatch case of that frame whose row's condition holds. -/
def Obligations.DecodedCaseIsWellFormed : Prop :=
  ∀ (c : Cfg) (self : Addr) (w : WFrame), c.wf = true → w.dlc ≤ maxDlc →
    (decodeFrame c self w).wf c self = true ∧ (decodeFrame c self w).frame? = some (fields w)

/-- R78: one frame is well formed as one dispatch case only, so the rows of the map do not overlap. -/
def Obligations.RowsDoNotOverlap : Prop :=
  ∀ (c : Cfg) (self : Addr) (f : Frame) (i j : Instr), c.wf = true → i.frame? = some f →
    j.frame? = some f → i.wf c self = true → j.wf c self = true → i = j

/-- Words written out from R61 and R70 decode to the instruction they stand for (self = 0x020). -/
def Obligations.WrittenWordsDecode : Prop :=
  (∃ f, decodeFrame Config.example95 0x020 { id := 0x1783FE40, dlc := 0, data := 0 } = .discover f ∧
    f.seq = 0 ∧ f.dst = 0x1FF ∧ f.src = 0x040) ∧
  (∃ f, decodeFrame Config.example95 0x020 { id := 0x14104040, dlc := 3, data := 0xFE0109 } =
    .setRegNodeId f ∧ f.seq = 4 ∧ addrOperand f = 0x1FE) ∧
  (∃ f, decodeFrame Config.example95 0x020 { id := 0x148C4040, dlc := 1, data := 0x09 } =
    .getRegStandard f ∧ f.seq = 3 ∧ regIndex f = 9) ∧
  (∃ f, decodeFrame Config.example95 0x020 { id := 0x190C6040, dlc := 1, data := 0x01 } =
    .remotePassThrough f ∧ f.dst = 0x030)

/-- R83: every line of the notation with at most eight payload bytes is read back from its tokens. -/
def Obligations.NotationReadBack : Prop :=
  ∀ l : Line, l.wf = true → parseLine (lineTokens l) = some l

/-! ### Steps -/

/-- A step of the SYS domain in DISPATCH runs the case the decoder gives the frame in `cur`; a step whose move is a
block operation runs that operation; nothing else happens but that the move leaves the agenda. -/
def Obligations.StepRunsDecodedInstruction : Prop :=
  (∀ (s : State) (rest : List Move), s.agenda = .sys :: rest → s.halt = .run →
    s.fsm = .dispatch →
    step s = exec (decodeFrame s.cfg s.nodeAddr s.cur) { s with agenda := rest }) ∧
  (∀ (s : State) (i : Instr) (rest : List Move), s.agenda = .op i :: rest → i.frame? = none →
    step s = exec i { s with agenda := rest })

/-- R151: the RESPOND step (the SYS turn in RESPOND, here the head of the model's own agenda: notes/assumptions/1.md)
submits the pending response on the transmit path, acknowledges the poll as HANDLED with the status of the transmit
result, and returns to IDLE. -/
def Obligations.RespondStepSubmitsResponse : Prop :=
  ∀ (s : State) (w v : WFrame) (rest : List Move), s.agenda = .sys :: rest → s.halt = .run →
    s.fsm = .respond → s.pend = some w →
    v = { w with dlc := if (8 : BitVec 4) < w.dlc then 8 else w.dlc } →
    (s.txInflight = false → step s = .next
      { s with
        agenda := rest, pend := none, fsm := .idle, txInflight := true, sending := some v
        hist := s.hist ++ [.txStart v, .pollAck .handled .sent zeroFrame] }) ∧
    (s.txInflight = true → cursorInc s.txWr ≠ s.txRd → ∃ m, step s = .next
      { s with
        agenda := rest, pend := none, fsm := .idle, txMem := m, txWr := s.txWr + 1
        hist := s.hist ++ [.pollAck .handled .queued zeroFrame] } ∧
      Memory.read Config.freeTxSlot m s.txWr.toNat = pack v ∧
      ∀ k, k ≠ s.txWr.toNat →
        Memory.read Config.freeTxSlot m k = Memory.read Config.freeTxSlot s.txMem k) ∧
    (s.txInflight = true → cursorInc s.txWr = s.txRd → step s = .next
      { s with
        agenda := rest, pend := none, fsm := .idle
        hist := s.hist ++ [.pollAck .handled .dropped zeroFrame] })

/-- R130 to R152: from IDLE an accepted poll ends within three SYS turns, with exactly one acknowledge, or with a
terminal trigger and none. -/
def Obligations.PollEndsInThreeTurns : Prop :=
  ∀ (s : State) (rest : List Move), Inv s → s.halt = .run → acceptsRequests s = true →
    s.agenda = .op .poll :: .sys :: .sys :: rest →
    ∃ s1 s2 t, step s = .next s1 ∧ step s1 = .next s2 ∧ step s2 = .next t ∧ t.agenda = rest ∧
      ((t.fsm = .idle ∧ t.halt = .run ∧ pollAcks t.hist = pollAcks s.hist + 1) ∨
       (t.fsm = .terminal ∧ t.halt ≠ .run ∧ pollAcks t.hist = pollAcks s.hist))

/-! ### Invariants -/

/-- Every step, whatever the move, keeps the invariant `Inv` (R112, R51, R110, R19, R24, R193, R28). -/
def Obligations.StepKeepsInv : Prop :=
  ∀ s t : State, Inv s → step s = .next t → Inv t

/-- The reset state has the invariant. -/
def Obligations.ResetHasInv : Prop := Inv State.reset

/-- From a state with the invariant no step finds DISPATCH without a frame or RESPOND without a response. -/
def Obligations.DispatcherNeverStuck : Prop :=
  ∀ s : State, Inv s → step s ≠ .fault .stuckNotDispatching ∧ step s ≠ .fault .stuckNoResponse

/-- R30: the value of every element R30 gives one, in the initial state and after both resets (R190), whatever the data
ports carry between strobes. That E.sending is none after the resets is R182's value at reset and the model's choice that
the TRANSPORT is reset with the block; so is that the configuration is kept (notes/assumptions/15.md). -/
def Obligations.ResetValues : Prop :=
  (∀ s : State, takeMove .assertResets s = .next (afterReset s) ∧ (afterReset s).cfg = s.cfg) ∧
  ∀ s t : State, (t = State.reset ∨ t = afterReset s) →
    t.rxWr = 0 ∧ t.rxRd = 0 ∧ t.rxWrV = 0 ∧ t.rxRdV = 0 ∧ t.txWr = 0 ∧ t.txRd = 0 ∧
    t.txInflight = false ∧ t.txdonePending = false ∧ t.nodeAddr = 0 ∧ t.seq = 0 ∧
    t.fsm = .idle ∧ t.pend = none ∧ t.ready = false ∧ t.halt = .run ∧ t.hist = [] ∧
    t.sending = none ∧
    rstTriggerLevel t = false ∧ upgTriggerLevel t = false ∧ haltedLevel t = false ∧
    nodeAddrPort t = 0 ∧ ∀ idle : IdlePorts,
      (outPorts idle t t).txStart = false ∧ (outPorts idle t t).pollAck = false ∧
      (outPorts idle t t).subAck = false ∧ (outPorts idle t t).breqAck = false ∧
      (outPorts idle t t).psLoadReq = false ∧ (outPorts idle t t).psStore = false

/-! ### FIFOs -/

/-- R100: the cursor arithmetic, modulo the capacity `2 ^ n`. -/
def Obligations.FifoArithmetic : Prop :=
  ∀ (n : Nat) (wr rd : BitVec n), 0 < n →
    (cursorInc wr).toNat = (wr.toNat + 1) % 2 ^ n ∧
    (fifoEmpty wr rd = true ↔ wr = rd) ∧ (fifoFull wr rd = true ↔ cursorInc wr = rd) ∧
    fifoCount wr rd = (wr.toNat + 2 ^ n - rd.toNat) % 2 ^ n ∧ fifoCount wr rd < 2 ^ n ∧
    (fifoEmpty wr rd = true ↔ fifoCount wr rd = 0) ∧
    (fifoFull wr rd = true ↔ fifoCount wr rd = 2 ^ n - 1)

/-- R103, R104: a push fails exactly when full, else stores at the write cursor and nowhere else; a pop fails exactly
when empty, else answers the entry at the read cursor. -/
def Obligations.PushStoresAndPopReads : Prop :=
  ∀ (n : Nat) (free : Nat → Entry) (m : Memory) (wr rd seen : BitVec n) (e : Entry),
    (cursorInc wr = seen → tryPush m wr seen e = none) ∧
    (cursorInc wr ≠ seen → ∃ m', tryPush m wr seen e = some (m', cursorInc wr) ∧
      Memory.read free m' wr.toNat = e ∧
      ∀ k, k ≠ wr.toNat → Memory.read free m' k = Memory.read free m k) ∧
    (rd = seen → tryPop free m rd seen = none) ∧
    (rd ≠ seen → tryPop free m rd seen = some (Memory.read free m rd.toNat, cursorInc rd))

/-- R105, R80, R106: RX completes in every running state: dropped where full as the BUS side sees it, else stored
unchecked with its dlc clamped at slot `RX.wr`; every other slot reads as before. -/
def Obligations.ReceiveStoresOrDrops : Prop :=
  ∀ (s : State) (w : WFrame), s.halt = .run →
    (cursorInc s.rxWr = s.rxRdV → exec (.rx w) s = .next
      { s with rxWrV := if s.cfg.cdcView = .exact then s.rxWr else s.rxWrV }) ∧
    (cursorInc s.rxWr ≠ s.rxRdV → ∃ m, exec (.rx w) s = .next
      { s with
        rxMem := m, rxWr := s.rxWr + 1
        rxWrV := if s.cfg.cdcView = .exact then s.rxWr + 1 else s.rxWrV } ∧
      Memory.read Config.freeRxSlot m s.rxWr.toNat =
        pack { w with dlc := if (8 : BitVec 4) < w.dlc then 8 else w.dlc } ∧
      ∀ k, k ≠ s.rxWr.toNat →
        Memory.read Config.freeRxSlot m k = Memory.read Config.freeRxSlot s.rxMem k)

/-- R114, the RX FIFO: an accepted frame joins the unread entries at the end; a poll takes the oldest; nothing else
changes them. -/
def Obligations.ReceiveOrderIsKept : Prop :=
  ∀ (s t : State) (i : Instr), Inv s → exec i s = .next t →
    (∀ w, i = .rx w → rxQueue t =
      if cursorInc s.rxWr = s.rxRdV then rxQueue s else rxQueue s ++ [pack (clampFrame w)]) ∧
    (i = .poll → (rxQueue t = rxQueue s ∧ t.fsm = s.fsm) ∨
      ∃ e, rxQueue s = e :: rxQueue t ∧ t.cur = unpack e ∧ t.fsm = .dispatch) ∧
    ((∀ w, i ≠ .rx w) → i ≠ .poll → rxQueue t = rxQueue s)

/-- R115: the frames started, followed by those queued, grow by exactly the frame a SUBMIT had accepted, and by
nothing at any other operation: transmissions start in the order of submission. (The dispatcher's responses:
`ResponseOrderIsKept`.) -/
def Obligations.TransmitOrderIsKept : Prop :=
  ∀ (s t : State) (i : Instr), Inv s → exec i s = .next t →
    taken t = taken s ++
      (match i with
       | .submit w =>
         if acceptsRequests s = true ∧ (s.txInflight = false ∨ cursorInc s.txWr ≠ s.txRd)
         then [clampFrame w] else []
       | _ => [])

/-- R115 for the dispatcher's responses: the RESPOND step adds exactly the pending frame, unless it is dropped. -/
def Obligations.ResponseOrderIsKept : Prop :=
  ∀ (s t : State) (w : WFrame), Inv s → s.halt = .run → s.fsm = .respond → s.pend = some w →
    sysStep s = .next t →
    taken t = taken s ++
      (if s.txInflight = false ∨ cursorInc s.txWr ≠ s.txRd then [clampFrame w] else [])

/-- R116: a frame is dropped on receive exactly when 15 entries are unread as the BUS side sees
it, and a submitted frame is refused exactly when one is in flight and 7 are queued. -/
def Obligations.CapacityBounds : Prop :=
  ∀ s : State, s.halt = .run →
    (∀ w, (∃ t, exec (.rx w) s = .next t ∧ t.rxWr = s.rxWr) ↔ fifoCount s.rxWr s.rxRdV = 15) ∧
    (∀ w, (txPath w s).1 = .rejectedFull ↔
      s.txInflight = true ∧ fifoCount s.txWr s.txRd = 7)

/-- R108, R109: the synchroniser steps complete in every running state and copy one cursor each (also where the view is
equal already: notes/assumptions/12.md). -/
def Obligations.SyncStepsCopyCursors : Prop :=
  ∀ s : State, s.halt = .run →
    exec .syncW s = .next { s with rxWrV := s.rxWr } ∧
    exec .syncR s = .next { s with rxRdV := s.rxRd }

/-- R84: under EXACT, with the invariant, SYNC is a no-op. -/
def Obligations.SyncIsNoOpUnderExact : Prop :=
  ∀ s : State, Inv s → s.cfg.cdcView = .exact → s.halt = .run →
    exec .syncW s = .next s ∧ exec .syncR s = .next s

/-- R51: after every operation a view holds what it held or its cursor's value. -/
def Obligations.ViewsCopyTheirCursors : Prop :=
  ∀ (s t : State) (i : Instr), exec i s = .next t →
    (t.rxWrV = s.rxWrV ∨ t.rxWrV = t.rxWr) ∧ (t.rxRdV = s.rxRdV ∨ t.rxRdV = t.rxRd)

/-! ### The transmit path -/

/-- R111: SUBMIT completes in every state that accepts requests (and in which no other frame waits at the port): SENT
where the channel is free, QUEUED at slot `TX.wr` where it is busy, REJECTED_FULL where it is busy and full. The port
holds the request as taken after, and another frame waiting there stops the model: notes/assumptions/9.md. -/
def Obligations.SubmitSendsQueuesOrRefuses : Prop :=
  ∀ (s : State) (w v : WFrame), s.halt = .run → acceptsRequests s = true →
    v = { w with dlc := if (8 : BitVec 4) < w.dlc then 8 else w.dlc } →
    (∀ u, s.subReq = .raised u → u ≠ w → exec (.submit w) s = .fault .stuckRequestChanged) ∧
    ((∀ u, s.subReq = .raised u → u = w) →
    (s.txInflight = false → exec (.submit w) s = .next
      { s with
        subReq := .taken w, txInflight := true, sending := some v
        hist := s.hist ++ [.txStart v, .subAck .sent] }) ∧
    (s.txInflight = true → cursorInc s.txWr ≠ s.txRd → ∃ m, exec (.submit w) s = .next
      { s with
        subReq := .taken w, txMem := m, txWr := s.txWr + 1
        hist := s.hist ++ [.subAck .queued] } ∧
      Memory.read Config.freeTxSlot m s.txWr.toNat = pack v ∧
      ∀ k, k ≠ s.txWr.toNat →
        Memory.read Config.freeTxSlot m k = Memory.read Config.freeTxSlot s.txMem k) ∧
    (s.txInflight = true → cursorInc s.txWr = s.txRd → exec (.submit w) s = .next
      { s with subReq := .taken w, hist := s.hist ++ [.subAck .rejectedFull] }))

/-- R113: TXDONE.H completes where a completion is pending: it starts the oldest queued frame, or frees the channel. -/
def Obligations.HandlerStartsNextOrFrees : Prop :=
  ∀ s : State, s.halt = .run → s.txdonePending = true →
    (s.txRd = s.txWr → exec .txdoneH s =
      .next { s with txdonePending := false, txInflight := false }) ∧
    (s.txRd ≠ s.txWr → ∃ w, w = unpack (Memory.read Config.freeTxSlot s.txMem s.txRd.toNat) ∧
      exec .txdoneH s = .next
        { s with
          txdonePending := false, txRd := s.txRd + 1, sending := some w
          hist := s.hist ++ [.txStart w] })

/-- R183, the step: TXDONE.C completes where the TRANSPORT holds a frame; with none it has no step
(notes/assumptions/10.md). -/
def Obligations.CompletionLatchesPending : Prop :=
  ∀ s : State,
    (∀ w, s.sending = some w →
      exec .txdoneC s = .next { s with sending := none, txdonePending := true }) ∧
    (s.sending = none → exec .txdoneC s = .fault .stuckNothingInFlight)

/-- R177: the receive handler and the transmit-complete handler reach the same state in either order. -/
def Obligations.BusHandlersCommute : Prop :=
  ∀ (s : State) (w : WFrame), s.halt = .run → s.txdonePending = true →
    ∃ a b t, exec (.rx w) s = .next a ∧ exec .txdoneH a = .next t ∧
      exec .txdoneH s = .next b ∧ exec (.rx w) b = .next t

/-! ### Requests and start-up -/

/-- R94: BREQ completes in every state that accepts requests (and in which no other request waits at the port): the
identifier carries the counter's value before the increment, which wraps modulo 32; nothing is sent. The port holds the
request as taken after, and another request waiting there stops the model: notes/assumptions/9.md. -/
def Obligations.BuildRequestUsesNextNumber : Prop :=
  ∀ (s : State) (t : TypeCode) (d : Addr), s.halt = .run → acceptsRequests s = true →
    (∀ a, s.breqReq = .raised a → a ≠ { typ := t, dst := d } →
      exec (.breq t d) s = .fault .stuckRequestChanged) ∧
    ((∀ a, s.breqReq = .raised a → a = { typ := t, dst := d }) →
    ∃ q, q.toNat = (s.seq.toNat + 1) % 32 ∧ exec (.breq t d) s = .next
      { s with
        breqReq := .taken { typ := t, dst := d }, seq := q
        hist := s.hist ++ [.breqAck (encodeId s.cfg.corePrio.toNat t.toNat s.seq.toNat d.toNat
          s.nodeAddr.toNat)] })

/-- R131, R107: POLL completes in every state that accepts requests: NOTHING_PENDING where the SYS view shows the RX
FIFO empty, else the entry at `RX.rd` goes into dispatch. The port holds the request as taken after:
notes/assumptions/9.md. -/
def Obligations.PollFetchesOneEntry : Prop :=
  ∀ s : State, s.halt = .run → acceptsRequests s = true →
    (s.rxRd = s.rxWrV → exec .poll s = .next
      { s with
        pollReq := .taken (), hist := s.hist ++ [.pollAck .nothingPending .none zeroFrame]
        rxRdV := if s.cfg.cdcView = .exact then s.rxRd else s.rxRdV }) ∧
    (s.rxRd ≠ s.rxWrV → exec .poll s = .next
      { s with
        pollReq := .taken (), rxRd := s.rxRd + 1
        rxRdV := if s.cfg.cdcView = .exact then s.rxRd + 1 else s.rxRdV
        cur := unpack (Memory.read Config.freeRxSlot s.rxMem s.rxRd.toNat)
        pend := none, fsm := .dispatch })

/-- R194, R28: a request that the block does not accept yet waits at its port (held in the state:
notes/assumptions/9.md) and changes nothing else; a poll request presented while its own poll is in progress is that same
request, and changes nothing. -/
def Obligations.RequestsWaitUntilAccepted : Prop :=
  ∀ s : State, s.halt = .run → acceptsRequests s = false →
    (s.fsm = .idle ∨ s.pollReq ≠ .taken () →
      exec .poll s = .next { s with pollReq := .raised () }) ∧
    (s.fsm ≠ .idle → s.pollReq = .taken () → exec .poll s = .next s) ∧
    (∀ w, (∀ u, s.subReq = .raised u → u = w) →
      exec (.submit w) s = .next { s with subReq := .raised w }) ∧
    (∀ w u, s.subReq = .raised u → u ≠ w → exec (.submit w) s = .fault .stuckRequestChanged) ∧
    (∀ t d, (∀ a, s.breqReq = .raised a → a = { typ := t, dst := d }) →
      exec (.breq t d) s = .next { s with breqReq := .raised { typ := t, dst := d } }) ∧
    (∀ t d a, s.breqReq = .raised a → a ≠ { typ := t, dst := d } →
      exec (.breq t d) s = .fault .stuckRequestChanged)

/-- R28 (notes/assumptions/9.md): a raised request is accepted, with the data it was raised with, when the block
accepts requests and samples its port; a port that is low, or whose request is taken already, is not accepted again. -/
def Obligations.WaitingRequestsAreServed : Prop :=
  ∀ s : State, s.halt = .run →
    (acceptsRequests s = true →
      (s.pollReq = .raised () →
        takeMove (.serve .poll) s = .next (fetch { s with pollReq := .taken () })) ∧
      (∀ w, s.subReq = .raised w →
        takeMove (.serve .submit) s = .next (submitFrame w { s with subReq := .taken w })) ∧
      (∀ a, s.breqReq = .raised a → takeMove (.serve .breq) s =
        .next (buildRequest a.typ a.dst { s with breqReq := .taken a }))) ∧
    (s.pollReq ≠ .raised () → takeMove (.serve .poll) s = .next s) ∧
    ((∀ w, s.subReq ≠ .raised w) → takeMove (.serve .submit) s = .next s) ∧
    ((∀ a, s.breqReq ≠ .raised a) → takeMove (.serve .breq) s = .next s)

/-- R28, R200, the levels of the request ports (notes/assumptions/9.md): a level raised at a low port is a request; held
to its acknowledge it stays that one request (that of an accepted poll comes in IDLE again, that of a submit or a built
request in the step that accepts it); high after the acknowledge it is a new one, low after it none. Data changed
before the acknowledge, or a level lowered before it, break R181's duty and stop the model. -/
def Obligations.RequestPortHandshake : Prop :=
  ∀ s : State, s.halt = .run →
    (s.pollReq = .low → takeMove (.drivePoll true) s = .next { s with pollReq := .raised () } ∧
      takeMove (.drivePoll false) s = .next s) ∧
    (s.pollReq = .raised () → takeMove (.drivePoll true) s = .next s ∧
      takeMove (.drivePoll false) s = .fault .stuckRequestWithdrawn) ∧
    (s.pollReq = .taken () → s.fsm ≠ .idle → takeMove (.drivePoll true) s = .next s ∧
      takeMove (.drivePoll false) s = .fault .stuckRequestWithdrawn) ∧
    (s.pollReq = .taken () → s.fsm = .idle →
      takeMove (.drivePoll true) s = .next { s with pollReq := .raised () } ∧
      takeMove (.drivePoll false) s = .next { s with pollReq := .low }) ∧
    (∀ w, (∀ u, s.subReq ≠ .raised u) →
      takeMove (.driveSub (some w)) s = .next { s with subReq := .raised w } ∧
      takeMove (.driveSub none) s = .next { s with subReq := .low }) ∧
    (∀ w u, s.subReq = .raised u →
      takeMove (.driveSub (some w)) s = (if w = u then .next s else .fault .stuckRequestChanged) ∧
      takeMove (.driveSub none) s = .fault .stuckRequestWithdrawn) ∧
    (∀ a, (∀ b, s.breqReq ≠ .raised b) →
      takeMove (.driveBreq (some a)) s = .next { s with breqReq := .raised a } ∧
      takeMove (.driveBreq none) s = .next { s with breqReq := .low }) ∧
    (∀ a b, s.breqReq = .raised b →
      takeMove (.driveBreq (some a)) s = (if a = b then .next s else .fault .stuckRequestChanged) ∧
      takeMove (.driveBreq none) s = .fault .stuckRequestWithdrawn)

/-- R192, R193: INIT completes before start-up: unset, 0 and 0x1FF load 0, any other value itself. -/
def Obligations.InitLoadsAddress : Prop :=
  ∀ (s : State) (ans : Option Addr), s.halt = .run → s.ready = false →
    ∃ a : Addr, exec (.init ans) s = .next
      { s with hist := s.hist ++ [.persistLoadReq], nodeAddr := a, ready := true } ∧
      (ans = none → a = 0) ∧ (ans = some 0x000 → a = 0) ∧ (ans = some 0x1FF → a = 0) ∧
      (∀ v, ans = some v → v ≠ 0x000 → v ≠ 0x1FF → a = v)

/-! ### The dispatch cases -/

/-- R132: a frame whose source is 0x1FF is rejected, whatever else it holds, without a response. -/
def Obligations.BroadcastSourceRejected : Prop :=
  ∀ (s : State) (f : Frame), s.halt = .run → s.fsm = .dispatch →
    (f.src = 0x1FF → classify s.cfg s.nodeAddr f = .rejectSrcBcast f) ∧
    exec (.rejectSrcBcast f) s = .next (acknowledged .rejected zeroFrame s)

/-- R134, R75, R149: DISCOVER is answered with NODE_INFO of seven bytes. -/
def Obligations.DiscoverAnsweredWithNodeInfo : Prop :=
  ∀ (s : State) (f : Frame), s.halt = .run → s.fsm = .dispatch →
    (s.cfg.wf = true → f.src ≠ bcast → (f.dst = s.nodeAddr ∨ f.dst = bcast) →
      f.typ = s.cfg.typeCode.discover → f.dlc = 0 →
      classify s.cfg s.nodeAddr f = .discover f) ∧
    exec (.discover f) s = .next (answered s.cfg.typeCode.nodeInfo
      [hi s.cfg.nodeType, lo s.cfg.nodeType, hi s.cfg.versionMajor, lo s.cfg.versionMajor,
       hi s.cfg.versionMinor, lo s.cfg.versionMinor, s.cfg.hwRevision] f s)

/-- R135: NODE_RESET triggers the reset, ends the run, and answers nothing. -/
def Obligations.NodeResetIsTerminal : Prop :=
  ∀ (s : State) (f : Frame), s.halt = .run → s.fsm = .dispatch →
    (s.cfg.wf = true → f.src ≠ bcast → (f.dst = s.nodeAddr ∨ f.dst = bcast) →
      f.typ = s.cfg.typeCode.nodeReset → f.dlc = 0 →
      classify s.cfg s.nodeAddr f = .nodeReset f) ∧
    exec (.nodeReset f) s = .next
      { s with hist := s.hist ++ [.resetTrigger], halt := .resetTriggered, fsm := .terminal }

/-- R136, R146, R148: the three fall-throughs answer ERROR INVALID_MSG. -/
def Obligations.FallThroughsAnswerInvalidMsg : Prop :=
  ∀ (s : State) (f : Frame), s.halt = .run → s.fsm = .dispatch →
    exec (.bcastInvalid f) s = .next (answeredError s.cfg.errCode.invalidMsg f s) ∧
    exec (.nodeInvalid f) s = .next (answeredError s.cfg.errCode.invalidMsg f s) ∧
    exec (.noMatch f) s = .next (answeredError s.cfg.errCode.invalidMsg f s)

/-- R137: SET_REG's index dispatch: 10 and above delegated, NODE_ID written as SET_REG.NODE_ID does, an unassigned slot
and a read-only one answered with their errors. -/
def Obligations.SetRegDispatchesOnIndex : Prop :=
  ∀ (s : State) (f : Frame), s.halt = .run → s.fsm = .dispatch →
    (10 ≤ regIndex f → exec (.setReg f) s = .next (acknowledged .delegate (wire f) s)) ∧
    (regIndex f < 10 → s.cfg.regMap.getD (regIndex f) .unassigned = .nodeId →
      exec (.setReg f) s = exec (.setRegNodeId f) s) ∧
    (regIndex f < 10 → s.cfg.regMap.getD (regIndex f) .unassigned = .unassigned →
      exec (.setReg f) s = .next (answeredError s.cfg.errCode.invalidRegister f s)) ∧
    (regIndex f < 10 → s.cfg.regMap.getD (regIndex f) .unassigned ≠ .nodeId →
      s.cfg.regMap.getD (regIndex f) .unassigned ≠ .unassigned →
      exec (.setReg f) s = .next (answeredError s.cfg.errCode.readOnlyRegister f s))

/-- R138, R68: the node-address write: a length other than 3 is a size mismatch; the values 0 and 0x1FF are rejected
with `ADDR_REJECT_CODE`; any other is stored, persisted, and echoed from the new address. -/
def Obligations.NodeIdWriteStoresAndEchoes : Prop :=
  ∀ (s : State) (f : Frame) (v : Addr), s.halt = .run → s.fsm = .dispatch →
    v = BitVec.ofNat 9 ((dataByte f.data 1).toNat * 256 + (dataByte f.data 2).toNat) →
    (f.dlc ≠ 3 → exec (.setRegNodeId f) s =
      .next (answeredError s.cfg.errCode.registerSizeMismatch f s)) ∧
    (f.dlc = 3 → (v = 0x000 ∨ v = 0x1FF) → exec (.setRegNodeId f) s =
      .next (answeredError (errCodeOf s.cfg s.cfg.addrRejectCode) f s)) ∧
    (f.dlc = 3 → v ≠ 0x000 → v ≠ 0x1FF → exec (.setRegNodeId f) s =
      .next (answered s.cfg.typeCode.regExternallyChanged
        [0x09, BitVec.ofNat 8 (v.toNat / 256), BitVec.ofNat 8 (v.toNat % 256)] f
        { s with nodeAddr := v, hist := s.hist ++ [.persistStore v] }))

/-- R139, R140, R143: a write of a read-only register and any access to an unassigned one are answered with their
errors, whatever the payload. -/
def Obligations.RegisterErrorsAnswered : Prop :=
  ∀ (s : State) (f : Frame), s.halt = .run → s.fsm = .dispatch →
    exec (.setRegReadOnly f) s = .next (answeredError s.cfg.errCode.readOnlyRegister f s) ∧
    exec (.setRegUnassigned f) s = .next (answeredError s.cfg.errCode.invalidRegister f s) ∧
    exec (.getRegUnassigned f) s = .next (answeredError s.cfg.errCode.invalidRegister f s)

/-- R137 to R141: which row a register access of rule 2 is, by its index and the register map. -/
def Obligations.RegisterRowsByIndex : Prop :=
  ∀ (s : State) (f : Frame) (k : RegKind), s.cfg.wf = true →
    k = s.cfg.regMap.getD (regIndex f) .unassigned →
    (setRegRow s f → classify s.cfg s.nodeAddr f =
      if 10 ≤ regIndex f then .setReg f
      else if k = .nodeId then .setRegNodeId f
      else if k = .unassigned then .setRegUnassigned f else .setRegReadOnly f) ∧
    (getRegRow s f → classify s.cfg s.nodeAddr f =
      if 10 ≤ regIndex f then .getReg f
      else if k = .unassigned then .getRegUnassigned f else .getRegStandard f)

/-- R142: GET_REG of an assigned standard register is answered with REG_VALUE, the index and the register's bytes. -/
def Obligations.GetRegAnswersValue : Prop :=
  ∀ (s : State) (f : Frame), s.halt = .run → s.fsm = .dispatch →
    exec (.getRegStandard f) s = .next (answered s.cfg.typeCode.regValue
      (dataByte f.data 0 :: registerBytes s.cfg s.nodeAddr s.resetCause
        (s.cfg.regMap.getD (regIndex f) .unassigned)) f s)

/-- R141: GET_REG's index dispatch: 10 and above delegated, an unassigned slot INVALID_REGISTER, else its value. -/
def Obligations.GetRegDispatchesOnIndex : Prop :=
  ∀ (s : State) (f : Frame), s.halt = .run → s.fsm = .dispatch →
    (10 ≤ regIndex f → exec (.getReg f) s = .next (acknowledged .delegate (wire f) s)) ∧
    (regIndex f < 10 → s.cfg.regMap.getD (regIndex f) .unassigned = .unassigned →
      exec (.getReg f) s = .next (answeredError s.cfg.errCode.invalidRegister f s)) ∧
    (regIndex f < 10 → s.cfg.regMap.getD (regIndex f) .unassigned ≠ .unassigned →
      exec (.getReg f) s = exec (.getRegStandard f) s)

/-- R144: NODE_UPGRADE is terminal on a build that supports it, else BOOTLOADER_UNSUPPORTED. -/
def Obligations.UpgradeTriggersOrIsRefused : Prop :=
  ∀ (s : State) (f : Frame), s.halt = .run → s.fsm = .dispatch →
    (s.cfg.upgradeSupported = true → exec (.nodeUpgrade f) s = .next
      { s with hist := s.hist ++ [.upgradeTrigger], halt := .upgradeTriggered, fsm := .terminal }) ∧
    (s.cfg.upgradeSupported = false → exec (.nodeUpgrade f) s =
      .next (answeredError s.cfg.errCode.bootloaderUnsupported f s)) ∧
    (s.cfg.wf = true → f.src ≠ bcast → f.dst = s.nodeAddr →
      f.typ = s.cfg.typeCode.nodeUpgrade → f.dlc = 0 →
      classify s.cfg s.nodeAddr f = .nodeUpgrade f)

/-- R145: the three bit operations are delegated, with no response and no other change of state. -/
def Obligations.BitOperationsDelegated : Prop :=
  ∀ (s : State) (f : Frame), s.halt = .run → s.fsm = .dispatch →
    exec (.setBit f) s = .next (acknowledged .delegate (wire f) s) ∧
    exec (.clearBit f) s = .next (acknowledged .delegate (wire f) s) ∧
    exec (.toggleBit f) s = .next (acknowledged .delegate (wire f) s) ∧
    (s.cfg.wf = true → f.src ≠ bcast → f.dst = s.nodeAddr → f.dlc = 2 →
      (f.typ = s.cfg.typeCode.setBit → classify s.cfg s.nodeAddr f = .setBit f) ∧
      (f.typ = s.cfg.typeCode.clearBit → classify s.cfg s.nodeAddr f = .clearBit f) ∧
      (f.typ = s.cfg.typeCode.toggleBit → classify s.cfg s.nodeAddr f = .toggleBit f))

/-- R147: a frame of the all-remote-node group is passed through, for any destination and length, with no response
and no change of any FIFO. -/
def Obligations.RemoteGroupPassedThrough : Prop :=
  ∀ (s : State) (f : Frame), s.halt = .run → s.fsm = .dispatch →
    (s.cfg.wf = true → f.src ≠ bcast → s.cfg.groupRemote.contains f.typ = true →
      classify s.cfg s.nodeAddr f = .remotePassThrough f) ∧
    exec (.remotePassThrough f) s = .next (acknowledged .passThrough (wire f) s)

/-- R178: the order in which the conditions on one frame are tested, from the source address to the register map. -/
def Obligations.DispatchPrecedence : Prop :=
  ∀ (s : State) (f : Frame), s.halt = .run → s.fsm = .dispatch → f = fields s.cur →
    s.cfg.wf = true →
    sysStep s = .next (
      if f.src = 0x1FF then acknowledged .rejected zeroFrame s
      else if s.cfg.groupRemote.contains f.typ = true then acknowledged .passThrough s.cur s
      else if ¬ ((s.cfg.groupBcast.contains f.typ = true ∧
                  (f.dst = s.nodeAddr ∨ f.dst = 0x1FF)) ∨
                 (s.cfg.groupNode.contains f.typ = true ∧ f.dst = s.nodeAddr)) then
        answeredError s.cfg.errCode.invalidMsg f s
      else if f.typ = s.cfg.typeCode.discover ∧ f.dlc = 0 then
        answered s.cfg.typeCode.nodeInfo (nodeInfoPayload s.cfg) f s
      else if f.typ = s.cfg.typeCode.nodeReset ∧ f.dlc = 0 then
        { s with hist := s.hist ++ [.resetTrigger], halt := .resetTriggered, fsm := .terminal }
      else if f.typ = s.cfg.typeCode.nodeUpgrade ∧ f.dlc = 0 then
        if s.cfg.upgradeSupported = true then
          { s with hist := s.hist ++ [.upgradeTrigger], halt := .upgradeTriggered, fsm := .terminal }
        else answeredError s.cfg.errCode.bootloaderUnsupported f s
      else if (f.typ = s.cfg.typeCode.setBit ∨ f.typ = s.cfg.typeCode.clearBit ∨
               f.typ = s.cfg.typeCode.toggleBit) ∧ f.dlc = 2 then
        acknowledged .delegate s.cur s
      else if ¬ ((f.typ = s.cfg.typeCode.setReg ∧ 1 < f.dlc) ∨
                 (f.typ = s.cfg.typeCode.getReg ∧ f.dlc = 1)) then
        answeredError s.cfg.errCode.invalidMsg f s
      else if 10 ≤ regIndex f then acknowledged .delegate s.cur s
      else if regKindOf s.cfg (regIndex f) = .unassigned then
        answeredError s.cfg.errCode.invalidRegister f s
      else if f.typ = s.cfg.typeCode.getReg then
        answered s.cfg.typeCode.regValue (dataByte f.data 0 ::
          regValue s.cfg s.nodeAddr s.resetCause (regKindOf s.cfg (regIndex f))) f s
      else if regKindOf s.cfg (regIndex f) ≠ .nodeId then
        answeredError s.cfg.errCode.readOnlyRegister f s
      else if f.dlc ≠ 3 then answeredError s.cfg.errCode.registerSizeMismatch f s
      else if addrOperand f = 0 ∨ addrOperand f = 0x1FF then
        answeredError (errCodeOf s.cfg s.cfg.addrRejectCode) f s
      else answered s.cfg.typeCode.regExternallyChanged (nodeIdChangedPayload (addrOperand f)) f
        { s with nodeAddr := addrOperand f, hist := s.hist ++ [.persistStore (addrOperand f)] })

/-- R149: a response mirrors the request's sequence number, goes to its source, comes from the node's address after
the step, has priority CORE_PRIO, and does not advance the counter. -/
def Obligations.ResponsesMirrorRequests : Prop :=
  ∀ (s t : State) (i : Instr) (f : Frame), i.frame? = some f → exec i s = .next t →
    t.fsm = .respond →
    t.seq = s.seq ∧ ∃ w, t.pend = some w ∧ idSeq w.id = f.seq ∧ idDst w.id = f.src ∧
      idSrc w.id = t.nodeAddr ∧ idPrio w.id = s.cfg.corePrio

/-- R152: a dispatch case ends in exactly one of three ways: an acknowledge without a response, a pending response, or
a terminal trigger. -/
def Obligations.DispatchOutcomes : Prop :=
  ∀ (s t : State) (i : Instr) (f : Frame), i.frame? = some f → exec i s = .next t →
    (t.fsm = .idle ∧ t.halt = .run ∧ t.pend = s.pend ∧ ∃ r w,
      t.hist = s.hist ++ [.pollAck r .none w] ∧ (r = .delegate ∨ r = .passThrough ∨ r = .rejected)) ∨
    (t.fsm = .respond ∧ t.halt = .run ∧ t.pend.isSome = true ∧ t.outcome = .handled ∧
      pollAcks t.hist = pollAcks s.hist) ∨
    (t.fsm = .terminal ∧ t.halt ≠ .run ∧
      (t.hist = s.hist ++ [.resetTrigger] ∨ t.hist = s.hist ++ [.upgradeTrigger]))

/-- I3: no dispatch rule reads a data byte at index `dlc` or above: two frames that differ only there lead to the same
state in every element but `hist`, and to the same events but for those bytes of the frame that a DELEGATE or PASS_THROUGH
hands on. -/
def Obligations.UnusedDataBytesNeverRead : Prop :=
  ∀ (s t : State) (f g : Frame), sameUpToUnused f g →
    exec (classify s.cfg s.nodeAddr f) s = .next t →
    ∃ l l', t.hist = s.hist ++ l ∧ List.Forall₂ sameEventUpToUnused l l' ∧
      exec (classify s.cfg s.nodeAddr g) s = .next { t with hist := s.hist ++ l' }

/-! ### Whole-machine rules -/

/-- R16, R17: the node address is written only by INIT and by a SET_REG of NODE_ID, and then it is no broadcast; the
sequence counter only by BREQ; `ready` only by INIT; the configuration by nothing. -/
def Obligations.RegisterWriters : Prop :=
  ∀ (s t : State) (i : Instr), exec i s = .next t →
    (t.nodeAddr ≠ s.nodeAddr →
      (∃ a, i = .init a) ∨ (∃ f, (i = .setRegNodeId f ∨ i = .setReg f) ∧ t.nodeAddr ≠ 0)) ∧
    (t.nodeAddr ≠ s.nodeAddr → t.nodeAddr ≠ bcast) ∧
    (t.seq ≠ s.seq → ∃ y d, i = .breq y d) ∧ (t.ready ≠ s.ready → ∃ a, i = .init a) ∧
    t.cfg = s.cfg ∧ t.resetCause = s.resetCause

/-- R53, R180, over `exec` alone: which operations write each cursor and flag, SYNC only the views, BUS only its own
state, the requests and the dispatch cases only the SYS domain's. The RESPOND step, which is no operation of the table
and writes `TX.wr`, `TX.mem` and `tx_inflight`, stands in `RespondStepSubmitsResponse`. TXDONE.C is the TRANSPORT's
(R183). -/
def Obligations.OnlyOwnersWrite : Prop :=
  ∀ (s t : State) (i : Instr), exec i s = .next t →
    (t.rxWr ≠ s.rxWr → ∃ w, i = .rx w) ∧ (t.rxMem ≠ s.rxMem → ∃ w, i = .rx w) ∧
    (t.rxRd ≠ s.rxRd → i = .poll) ∧
    (t.txWr ≠ s.txWr → ∃ w, i = .submit w) ∧ (t.txMem ≠ s.txMem → ∃ w, i = .submit w) ∧
    (t.txRd ≠ s.txRd → i = .txdoneH) ∧
    (t.txInflight ≠ s.txInflight → i = .txdoneH ∨ ∃ w, i = .submit w) ∧
    (t.txdonePending ≠ s.txdonePending → i = .txdoneH ∨ i = .txdoneC) ∧
    (t.cur ≠ s.cur → i = .poll) ∧
    (t.fsm ≠ s.fsm → i = .poll ∨ i.frame?.isSome = true) ∧
    (t.halt ≠ s.halt → ∃ f, i = .nodeReset f ∨ i = .nodeUpgrade f)

/-- R20: no operation takes an event out of `hist`. -/
def Obligations.HistoryOnlyGrows : Prop :=
  ∀ (s t : State) (i : Instr), exec i s = .next t → ∃ l, t.hist = s.hist ++ l ∧ l.length ≤ 2

/-- R203: after a terminal trigger no operation of the block has a step. -/
def Obligations.NoStepAfterTerminalTrigger : Prop :=
  ∀ (s : State) (i : Instr), s.halt ≠ .run →
    (∀ p y q d r, i ≠ .encode p y q d r) → (∀ id, i ≠ .decode id) → i ≠ .txdoneC →
    exec i s = .fault .stuckTerminal

/-- R203: after a terminal trigger no chosen move but the assertion of both resets changes an element of the block's
state, `txdone_pending` apart, which the TRANSPORT's TXDONE.C may still write, with E.sending (notes/assumptions/14.md;
the moves are the model's agenda: notes/assumptions/1.md). -/
def Obligations.TerminalStateIsFrozen : Prop :=
  ∀ (s t : State) (m : Move) (rest : List Move), s.halt ≠ .run → s.agenda = m :: rest →
    m ≠ .assertResets → step s = .next t →
    t.halt = s.halt ∧ t.hist = s.hist ∧ t.fsm = s.fsm ∧ t.rxMem = s.rxMem ∧ t.rxWr = s.rxWr ∧
    t.rxRd = s.rxRd ∧ t.rxWrV = s.rxWrV ∧ t.rxRdV = s.rxRdV ∧ t.txMem = s.txMem ∧
    t.txWr = s.txWr ∧ t.txRd = s.txRd ∧ t.txInflight = s.txInflight ∧ t.nodeAddr = s.nodeAddr ∧
    t.seq = s.seq ∧ t.cur = s.cur ∧ t.pend = s.pend ∧ t.outcome = s.outcome ∧
    t.ready = s.ready ∧ t.cfg = s.cfg ∧
    (m ≠ .op .txdoneC → t.txdonePending = s.txdonePending ∧ t.sending = s.sending)

/-- R27, R81, R82, R29: the output ports in the clock of each kind of outcome: the strobe, its codes and its data, the
levels as they stand after the step, and on the ports of the other strobes whatever they carry (the free values `idle`,
notes/assumptions/27.md). -/
def Obligations.PortsCarryOutcome : Prop :=
  ∀ (idle : IdlePorts) (s t : State) (f : Frame) (w : WFrame),
    -- the outcomes of a poll without a response, and the triggers
    (exec .poll s = .next t → acceptsRequests s = true → s.rxRd = s.rxWrV →
      outPorts idle s t = { quietPorts idle t with
        pollAck := true, pollResult := 0, pollResp := 0, pollFrame := zeroFrame }) ∧
    (exec (.setBit f) s = .next t → outPorts idle s t = { quietPorts idle t with
      pollAck := true, pollResult := 2, pollResp := 0, pollFrame := wire f }) ∧
    (exec (.remotePassThrough f) s = .next t → outPorts idle s t = { quietPorts idle t with
      pollAck := true, pollResult := 3, pollResp := 0, pollFrame := wire f }) ∧
    (exec (.rejectSrcBcast f) s = .next t → outPorts idle s t = { quietPorts idle t with
      pollAck := true, pollResult := 4, pollResp := 0, pollFrame := zeroFrame }) ∧
    (exec (.nodeReset f) s = .next t → outPorts idle s t = { quietPorts idle s with
      rstTrigger := true, upgTrigger := false, halted := true }) ∧
    (exec (.nodeUpgrade f) s = .next t → s.cfg.upgradeSupported = true →
      outPorts idle s t = { quietPorts idle s with
        rstTrigger := false, upgTrigger := true, halted := true }) ∧
    -- the response of a handled request
    (s.halt = .run → s.fsm = .respond → s.pend = some w → sysStep s = .next t →
      outPorts idle s t =
        if s.txInflight = false then { quietPorts idle s with
          txStart := true, txFrame := clampFrame w
          pollAck := true, pollResult := 1, pollResp := 1, pollFrame := zeroFrame }
        else { quietPorts idle s with
          pollAck := true, pollResult := 1
          pollResp := if cursorInc s.txWr = s.txRd then 3 else 2, pollFrame := zeroFrame }) ∧
    -- the other requests, start-up, the address write and the transmit-complete handler
    (exec (.submit w) s = .next t → acceptsRequests s = true → outPorts idle s t =
      if s.txInflight = false then { quietPorts idle s with
        txStart := true, txFrame := clampFrame w, subAck := true, subResult := 1 }
      else { quietPorts idle s with
        subAck := true, subResult := if cursorInc s.txWr = s.txRd then 3 else 2 }) ∧
    (∀ y d, exec (.breq y d) s = .next t → acceptsRequests s = true →
      outPorts idle s t = { quietPorts idle s with
        breqAck := true, breqId := encodeFields s.cfg.corePrio y s.seq d s.nodeAddr }) ∧
    (∀ ans, exec (.init ans) s = .next t → outPorts idle s t = { quietPorts idle s with
      psLoadReq := true, nodeAddrO := t.nodeAddr }) ∧
    (exec (.setRegNodeId f) s = .next t → f.dlc = 3 → addrOperand f ≠ 0 → addrOperand f ≠ 0x1FF →
      outPorts idle s t = { quietPorts idle s with
        psStore := true, psStoreAddr := addrOperand f, nodeAddrO := addrOperand f }) ∧
    (exec .txdoneH s = .next t → s.txRd ≠ s.txWr → outPorts idle s t = { quietPorts idle s with
      txStart := true
      txFrame := unpack (Memory.read Config.freeTxSlot s.txMem s.txRd.toNat) })
end

