-- ==== Sys2Proof/Laws/Codec.lean ====
section
/-! SUPPORT. What the codec's functions return: each field of a packed identifier, the clamp, the entry layout. -/

namespace Sys2Proof.Machine

@[simp] theorem idPrio_encodeId (p t s d r : Nat) :
    idPrio (encodeId p t s d r) = BitVec.ofNat 1 p := by
  ext i hi
  simp [idPrio, encodeId]
  grind

@[simp] theorem idType_encodeId (p t s d r : Nat) :
    idType (encodeId p t s d r) = BitVec.ofNat 5 t := by
  ext i hi
  simp [idType, encodeId]
  grind

@[simp] theorem idSeq_encodeId (p t s d r : Nat) :
    idSeq (encodeId p t s d r) = BitVec.ofNat 5 s := by
  ext i hi
  simp [idSeq, encodeId]
  grind

@[simp] theorem idDst_encodeId (p t s d r : Nat) :
    idDst (encodeId p t s d r) = BitVec.ofNat 9 d := by
  ext i hi
  simp [idDst, encodeId]
  grind

@[simp] theorem idSrc_encodeId (p t s d r : Nat) :
    idSrc (encodeId p t s d r) = BitVec.ofNat 9 r := by
  ext i hi
  simp [idSrc, encodeId]
  grind

@[simp] theorem wire_dlc (f : Frame) : (wire f).dlc = f.dlc := rfl
@[simp] theorem wire_data (f : Frame) : (wire f).data = f.data := rfl
@[simp] theorem fields_dlc (w : WFrame) : (fields w).dlc = w.dlc := rfl
@[simp] theorem fields_data (w : WFrame) : (fields w).data = w.data := rfl
@[simp] theorem clampFrame_id (w : WFrame) : (clampFrame w).id = w.id := rfl
@[simp] theorem clampFrame_data (w : WFrame) : (clampFrame w).data = w.data := rfl
@[simp] theorem clampFrame_dlc (w : WFrame) : (clampFrame w).dlc = clampDlc w.dlc := rfl

/-- The clamp's result is in R63's range. -/
theorem clampDlc_le (n : BitVec 4) : clampDlc n ≤ maxDlc := by
  unfold clampDlc
  split
  · exact BitVec.le_refl _
  · rename_i h
    exact BitVec.not_lt.mp h

/-- A length count in range is kept. -/
theorem clampDlc_of_le {n : BitVec 4} (h : n ≤ maxDlc) : clampDlc n = n :=
  if_neg (BitVec.not_lt.mpr h)

/-- A frame with a length count in range is kept. -/
theorem clampFrame_of_le {w : WFrame} (h : w.dlc ≤ maxDlc) : clampFrame w = w := by
  simp [clampFrame, clampDlc_of_le h]

/-- The four sub-bytes give the identifier back (R66). -/
theorem idOfBytes_idb (id : WireId) : idOfBytes (idb0 id) (idb1 id) (idb2 id) (idb3 id) = id := by
  ext i hi
  simp [idOfBytes, idb0, idb1, idb2, idb3]
  grind

end Sys2Proof.Machine
end

