-- ==== Sys2Proof/Laws/Memory.lean ====
section
/-! SUPPORT. The slot memory: read after write, and that a write keeps the canonical form. -/

namespace Sys2Proof.Machine

/-- A written slot holds what was written. -/
@[simp] theorem Memory.find_write_same (m : Memory) (k : Nat) (e : Entry) :
    Memory.find (Memory.write m k e) k = some e := by
  induction m with
  | nil => simp [Memory.write, Memory.find]
  | cons p m ih =>
    obtain ⟨j, d⟩ := p
    simp only [Memory.write]
    split
    · simp [Memory.find]
    · split
      · simp [Memory.find]
      · rename_i h
        simp [Memory.find, ih, Ne.symm h]

/-- A write leaves every other slot as it was. -/
theorem Memory.find_write_other (m : Memory) {k i : Nat} (e : Entry) (h : i ≠ k) :
    Memory.find (Memory.write m k e) i = Memory.find m i := by
  induction m with
  | nil => simp [Memory.write, Memory.find, Ne.symm h]
  | cons p m ih =>
    obtain ⟨j, d⟩ := p
    simp only [Memory.write]
    split
    · simp [Memory.find, Ne.symm h]
    · split
      · rename_i hkj
        simp [Memory.find, Ne.symm h, ← hkj]
      · simp only [Memory.find, ih]

/-- Read after write, the same slot. -/
@[simp] theorem Memory.read_write_same (free : Nat → Entry) (m : Memory) (k : Nat) (e : Entry) :
    Memory.read free (Memory.write m k e) k = e := by simp [Memory.read]

/-- Read after write, another slot. -/
theorem Memory.read_write_other (free : Nat → Entry) (m : Memory) {k i : Nat} (e : Entry)
    (h : i ≠ k) : Memory.read free (Memory.write m k e) i = Memory.read free m i := by
  simp [Memory.read, Memory.find_write_other m e h]

/-- Every entry of the storage after a write is the one written or was there before. -/
theorem Memory.mem_write {m : Memory} {k : Nat} {e : Entry} {p : Nat × Entry}
    (h : p ∈ Memory.write m k e) : p = (k, e) ∨ p ∈ m := by
  induction m with
  | nil => simpa [Memory.write] using h
  | cons q m ih =>
    obtain ⟨j, d⟩ := q
    simp only [Memory.write] at h
    split at h
    · simpa using h
    · split at h
      · rcases List.mem_cons.mp h with h | h
        · exact .inl h
        · exact .inr (List.mem_cons_of_mem _ h)
      · rcases List.mem_cons.mp h with h | h
        · exact .inr (h ▸ List.mem_cons_self)
        · exact (ih h).imp id (List.mem_cons_of_mem _)

/-- The canonical form's order, as a chain. -/
theorem Memory.rising_cons (j : Nat) (d : Entry) (m : Memory) :
    Memory.rising ((j, d) :: m) = true ↔
      (∀ q, m.head? = some q → j < q.1) ∧ Memory.rising m = true := by
  cases m with
  | nil => simp [Memory.rising]
  | cons q m => simp [Memory.rising]

/-- The first slot of the storage after a write. -/
theorem Memory.head_write {m : Memory} {k : Nat} {e : Entry} {q : Nat × Entry}
    (h : (Memory.write m k e).head? = some q) : q.1 = k ∨ ∃ p, m.head? = some p ∧ q.1 = p.1 := by
  cases m with
  | nil => simp [Memory.write] at h; exact .inl (by rw [← h])
  | cons p m =>
    obtain ⟨j, d⟩ := p
    simp only [Memory.write] at h
    split at h
    · simp at h; exact .inl (by rw [← h])
    · split at h
      · simp at h; exact .inl (by rw [← h])
      · simp at h; exact .inr ⟨(j, d), by simp, by rw [← h]⟩

/-- A write keeps the slots rising. -/
theorem Memory.rising_write {m : Memory} (k : Nat) (e : Entry) (h : Memory.rising m = true) :
    Memory.rising (Memory.write m k e) = true := by
  induction m with
  | nil => rfl
  | cons p m ih =>
    obtain ⟨j, d⟩ := p
    obtain ⟨h1, h2⟩ := (Memory.rising_cons j d m).mp h
    simp only [Memory.write]
    split
    · rename_i hk
      exact (Memory.rising_cons _ _ _).mpr ⟨by simpa using hk, h⟩
    · split
      · rename_i hk
        exact (Memory.rising_cons _ _ _).mpr ⟨hk ▸ h1, h2⟩
      · refine (Memory.rising_cons _ _ _).mpr ⟨fun q hq => ?_, ih h2⟩
        rcases Memory.head_write hq with hq | ⟨p, hp, hq⟩
        · omega
        · exact hq ▸ h1 p hp

/-- A write inside the storage's `cap` slots keeps its canonical form. -/
theorem Memory.wf_write {cap : Nat} {m : Memory} {k : Nat} (e : Entry)
    (h : Memory.wf cap m = true) (hk : k < cap) : Memory.wf cap (Memory.write m k e) = true := by
  simp only [Memory.wf, Bool.and_eq_true, List.all_eq_true, decide_eq_true_eq] at h ⊢
  refine ⟨Memory.rising_write k e h.1, fun p hp => ?_⟩
  rcases Memory.mem_write hp with hp | hp
  · exact hp ▸ hk
  · exact h.2 p hp

/-- The storage at reset has the canonical form. -/
theorem reset_memory_wf :
    Memory.wf 16 State.reset.rxMem = true ∧ Memory.wf 8 State.reset.txMem = true := ⟨rfl, rfl⟩

/-- A listed slot's entry stands in the storage. -/
theorem Memory.mem_of_find {m : Memory} {k : Nat} {e : Entry} (h : Memory.find m k = some e) :
    (k, e) ∈ m := by
  induction m with
  | nil => simp [Memory.find] at h
  | cons p m ih =>
    obtain ⟨j, d⟩ := p
    simp only [Memory.find] at h
    split at h
    · rename_i hj
      simp at h
      simp [hj, h]
    · exact List.mem_cons_of_mem _ (ih h)

end Sys2Proof.Machine
end

