-- ==== Sys2Proof/Laws/Ops.lean ====
section
/-! SUPPORT. What each shared operation can do, said once: every proof about an instruction cites these instead of
unfolding the operation. -/

namespace Sys2Proof.Machine

/-- A push: what the storage and the cursor become. -/
theorem tryPush_some {n : Nat} {m m' : Memory} {wr wr' rdSeen : BitVec n} {e : Entry}
    (h : tryPush m wr rdSeen e = some (m', wr')) :
    cursorInc wr ≠ rdSeen ∧ m' = Memory.write m wr.toNat e ∧ wr' = cursorInc wr := by
  unfold tryPush at h
  split at h
  · simp at h
  · rename_i hne
    simp only [Option.some.injEq, Prod.mk.injEq] at h
    exact ⟨hne, h.1.symm, h.2.symm⟩

/-- A push fails exactly when the FIFO is full as seen. -/
theorem tryPush_none {n : Nat} (m : Memory) (wr rdSeen : BitVec n) (e : Entry) :
    tryPush m wr rdSeen e = none ↔ cursorInc wr = rdSeen := by
  unfold tryPush
  split <;> simp_all

/-- A pop: what it reads and where the cursor goes. -/
theorem tryPop_some {n : Nat} {free : Nat → Entry} {m : Memory} {rd rd' wrSeen : BitVec n}
    {e : Entry} (h : tryPop free m rd wrSeen = some (e, rd')) :
    rd ≠ wrSeen ∧ e = Memory.read free m rd.toNat ∧ rd' = cursorInc rd := by
  unfold tryPop at h
  split at h
  · simp at h
  · rename_i hne
    simp only [Option.some.injEq, Prod.mk.injEq] at h
    exact ⟨hne, h.1.symm, h.2.symm⟩

/-- A pop fails exactly when the FIFO is empty as seen. -/
theorem tryPop_none {n : Nat} (free : Nat → Entry) (m : Memory) (rd wrSeen : BitVec n) :
    tryPop free m rd wrSeen = none ↔ rd = wrSeen := by
  unfold tryPop
  split <;> simp_all

/-- The receive push: dropped when full as seen, else stored (R105). -/
theorem rxPush_cases (w : WFrame) (s : State) :
    (cursorInc s.rxWr = s.rxRdV ∧ rxPush w s = publishWr s) ∨
    (cursorInc s.rxWr ≠ s.rxRdV ∧ rxPush w s = publishWr
      { s with rxMem := Memory.write s.rxMem s.rxWr.toNat (pack w), rxWr := cursorInc s.rxWr }) := by
  by_cases h : cursorInc s.rxWr = s.rxRdV
  · exact .inl ⟨h, by simp [rxPush, tryPush, h]⟩
  · exact .inr ⟨h, by simp [rxPush, tryPush, h]⟩

/-- The dispatcher's pop: nothing when empty as seen, else the entry at the read cursor (R107). -/
theorem rxPop_cases (s : State) :
    (s.rxRd = s.rxWrV ∧ rxPop s = (none, publishRd s)) ∨
    (s.rxRd ≠ s.rxWrV ∧ rxPop s = (some (Memory.read Config.freeRxSlot s.rxMem s.rxRd.toNat),
      publishRd { s with rxRd := cursorInc s.rxRd })) := by
  by_cases h : s.rxRd = s.rxWrV
  · exact .inl ⟨h, by simp [rxPop, tryPop, h]⟩
  · exact .inr ⟨h, by simp [rxPop, tryPop, h]⟩

/-- Fetch: nothing pending, or an entry in dispatch (R131). -/
theorem fetch_cases (s : State) :
    (s.rxRd = s.rxWrV ∧
      fetch s = emit (.pollAck .nothingPending .none zeroFrame) (publishRd s)) ∨
    (s.rxRd ≠ s.rxWrV ∧ fetch s =
      { publishRd { s with rxRd := cursorInc s.rxRd } with
        cur := unpack (Memory.read Config.freeRxSlot s.rxMem s.rxRd.toNat)
        pend := none
        fsm := .dispatch }) := by
  rcases rxPop_cases s with ⟨h, hp⟩ | ⟨h, hp⟩
  · exact .inl ⟨h, by simp [fetch, hp]⟩
  · exact .inr ⟨h, by simp [fetch, hp]⟩

/-- The transmit path's three results (R111). -/
theorem txPath_cases (w : WFrame) (s : State) :
    (s.txInflight = false ∧
      txPath w s = (.sent, { startTx (clampFrame w) s with txInflight := true })) ∨
    (s.txInflight = true ∧ cursorInc s.txWr ≠ s.txRd ∧ txPath w s = (.queued,
      { s with
        txMem := Memory.write s.txMem s.txWr.toNat (pack (clampFrame w))
        txWr := cursorInc s.txWr })) ∨
    (s.txInflight = true ∧ cursorInc s.txWr = s.txRd ∧ txPath w s = (.rejectedFull, s)) := by
  cases h : s.txInflight with
  | false => exact .inl ⟨rfl, by simp [txPath, h]⟩
  | true =>
    by_cases hf : cursorInc s.txWr = s.txRd
    · exact .inr (.inr ⟨rfl, hf, by simp [txPath, h, tryPush, hf]⟩)
    · exact .inr (.inl ⟨rfl, hf, by simp [txPath, h, tryPush, hf]⟩)

/-- The transmit-complete handler's two results (R113). -/
theorem completeTx_cases (s : State) :
    (s.txRd = s.txWr ∧ completeTx s = { s with txdonePending := false, txInflight := false }) ∨
    (s.txRd ≠ s.txWr ∧ completeTx s =
      startTx (unpack (Memory.read Config.freeTxSlot s.txMem s.txRd.toNat))
        { s with txdonePending := false, txRd := cursorInc s.txRd }) := by
  by_cases h : s.txRd = s.txWr
  · exact .inl ⟨h, by simp [completeTx, tryPop, h]⟩
  · exact .inr ⟨h, by simp [completeTx, tryPop, h]⟩

/-- SET_REG of NODE_ID: its three outcomes (R138). -/
theorem writeNodeId_cases (f : Frame) (s : State) :
    (f.dlc ≠ 3 ∧ writeNodeId f s = raiseError .registerSizeMismatch f s) ∨
    (f.dlc = 3 ∧ addrRejected (addrOperand f) = true ∧
      writeNodeId f s = raiseError s.cfg.addrRejectCode f s) ∨
    (f.dlc = 3 ∧ addrRejected (addrOperand f) = false ∧
      writeNodeId f s = reply .setReg (nodeIdChangedPayload (addrOperand f)) f
        (storeNodeAddr (addrOperand f) s)) := by
  by_cases h : f.dlc = 3
  · cases hr : addrRejected (addrOperand f) with
    | true => exact .inr (.inl ⟨h, rfl, by simp [writeNodeId, h, hr]⟩)
    | false => exact .inr (.inr ⟨h, rfl, by simp [writeNodeId, h, hr]⟩)
  · exact .inl ⟨h, if_pos h⟩

/-- A dispatch case that answers a next state ran its body in the DISPATCH state. -/
theorem dispatching_next {s t : State} {body : State → State} :
    dispatching s body = .next t ↔ s.halt = .run ∧ s.fsm = .dispatch ∧ t = body s := by
  unfold dispatching
  by_cases h1 : s.halt = .run
  · by_cases h2 : s.fsm = .dispatch
    · simp [h1, h2, eq_comm]
    · simp [h1, h2]
  · simp [h1]

/-- Presenting `a` at a port leaves it raised with `a`, or, while an accepted request of `a` waits for its acknowledge,
as it is. -/
theorem raiseLine_cases {α : Type} [DecidableEq α] {line l : ReqLine α} {answered : Bool} {a : α}
    (h : raiseLine line answered a = some l) :
    l = .raised a ∨ (answered = false ∧ line = .taken a ∧ l = .taken a) := by
  cases line with
  | low => exact .inl (by simpa [raiseLine] using h.symm)
  | raised b =>
    simp only [raiseLine] at h
    split at h <;> simp_all
  | taken b =>
    cases answered with
    | true => exact .inl (by simpa [raiseLine] using h.symm)
    | false =>
      simp only [raiseLine] at h
      split at h <;> simp_all

/-- While no acknowledge is owed, presenting `a` at a port where no other request waits raises it. -/
theorem raiseLine_answered {α : Type} [DecidableEq α] {line : ReqLine α} {a : α}
    (h : ∀ b, line = .raised b → b = a) : raiseLine line true a = some (.raised a) := by
  cases line with
  | low => rfl
  | raised b => simp [raiseLine, h b rfl]
  | taken b => rfl

/-- A port that can be lowered is low after. -/
theorem lowerLine_low {α : Type} {line l : ReqLine α} {answered stopped : Bool}
    (h : lowerLine line answered stopped = some l) : l = .low := by
  cases line with
  | low => simpa [lowerLine] using h.symm
  | raised b =>
    simp only [lowerLine] at h
    split at h <;> simp_all
  | taken b =>
    simp only [lowerLine] at h
    split at h <;> simp_all

/-- A level that is presented changes the port alone. -/
theorem driveRequest_next {α : Type} [DecidableEq α] {line : ReqLine α} {answered : Bool}
    {setLine : ReqLine α → State → State} {level : Option α} {s t : State}
    (h : driveRequest line answered setLine level s = .next t) :
    ∃ l, t = setLine l s ∧
      ((∃ a, level = some a ∧ raiseLine line answered a = some l) ∨
       (level = none ∧ l = .low ∧ lowerLine line answered (haltedLevel s) = some l)) := by
  cases level with
  | some a =>
    simp only [driveRequest] at h
    split at h
    · rename_i l hl
      exact ⟨l, by simpa using h.symm, .inl ⟨a, rfl, hl⟩⟩
    · cases h
  | none =>
    simp only [driveRequest] at h
    split at h
    · rename_i l hl
      exact ⟨l, by simpa using h.symm, .inr ⟨rfl, lowerLine_low hl, hl⟩⟩
    · cases h

/-- A request that answers a next state was presented at its port, and accepted there or left waiting. -/
theorem request_next {α : Type} [DecidableEq α] {line : ReqLine α} {answered : Bool}
    {setLine : ReqLine α → State → State} {a : α} {accept : State → State} {s t : State} :
    request line answered setLine a accept s = .next t ↔
      s.halt = .run ∧ ∃ l, raiseLine line answered a = some l ∧
        ((acceptsRequests s = true ∧ t = accept (setLine (.taken a) s)) ∨
         (acceptsRequests s = false ∧ t = setLine l s)) := by
  unfold request
  by_cases h1 : s.halt = .run
  · cases hl : raiseLine line answered a with
    | none => simp [h1]
    | some l => cases h3 : acceptsRequests s <;> simp [h1, eq_comm]
  · simp [h1]

/-- A ready, idle, running block accepts a request at whose port no other request waits. -/
theorem request_accepted {α : Type} [DecidableEq α] {line : ReqLine α} {answered : Bool}
    {setLine : ReqLine α → State → State} {a : α} {accept : State → State} {s : State}
    (hr : s.halt = .run) (ha : acceptsRequests s = true) (hans : answered = true)
    (hl : ∀ b, line = .raised b → b = a) :
    request line answered setLine a accept s = .next (accept (setLine (.taken a) s)) := by
  subst hans
  exact request_next.mpr ⟨hr, _, raiseLine_answered hl, .inl ⟨ha, rfl⟩⟩

/-- A running block that accepts no request leaves one presented at its port where no other request waits. -/
theorem request_waits {α : Type} [DecidableEq α] {line : ReqLine α} {setLine : ReqLine α → State → State}
    {a : α} {accept : State → State} {s : State} (hr : s.halt = .run)
    (ha : acceptsRequests s = false) (hl : ∀ b, line = .raised b → b = a) :
    request line true setLine a accept s = .next (setLine (.raised a) s) :=
  request_next.mpr ⟨hr, _, raiseLine_answered hl, .inr ⟨ha, rfl⟩⟩

/-- A request other than the one that waits at its port stops the model (R28). -/
theorem request_changed {α : Type} [DecidableEq α] {line : ReqLine α} {answered : Bool}
    {setLine : ReqLine α → State → State} {a b : α} {accept : State → State} {s : State}
    (hr : s.halt = .run) (hl : line = .raised b) (hb : b ≠ a) :
    request line answered setLine a accept s = .fault .stuckRequestChanged := by
  simp [request, hr, hl, raiseLine, Ne.symm hb]

/-- Where requests are accepted the block is ready, idle, and owes no poll an acknowledge. -/
theorem acceptsRequests_iff {s : State} :
    acceptsRequests s = true ↔ s.ready = true ∧ s.fsm = .idle ∧ pollAnswered s = true := by
  simp [acceptsRequests, pollAnswered]

/-- A BUS or SYNC step that answers a next state ran its body in a running block. -/
theorem whileRunning_next {s t : State} {body : State → State} :
    whileRunning s body = .next t ↔ s.halt = .run ∧ t = body s := by
  unfold whileRunning
  by_cases h1 : s.halt = .run
  · simp [h1, eq_comm]
  · simp [h1]

/-- The RESPOND step that answers a next state had a response pending. -/
theorem respondStep_next {s t : State} :
    respondStep s = .next t ↔ ∃ w, s.pend = some w ∧ t = sendResponse w s := by
  unfold respondStep
  cases s.pend with
  | none => simp
  | some w => simp [eq_comm]

/-- A drawn move never stops the machine. -/
theorem takeDrawn_next (m : Move) (s : State) :
    ∃ t, takeDrawn m s = .next t ∧ (takeMove m s = .next t ∨ t = s) := by
  unfold takeDrawn
  cases h : takeMove m s with
  | next t => exact ⟨t, rfl, .inl rfl⟩
  | fault r => exact ⟨s, rfl, .inr rfl⟩
  | refused r => exact ⟨s, rfl, .inr rfl⟩

end Sys2Proof.Machine
end

