-- ==== Sys2Proof/Laws/PerInstr.lean ====
section
/-! SUPPORT. The per-instruction family `EncodedLength`: the encoding of a dispatch case has the 13 bytes of a stored
frame, and the three bits above its 29-bit identifier are 0 (R66). A block operation has no encoding. -/

namespace Sys2Proof.Laws.EncodedLength

open Sys2Proof Sys2Proof.Machine

/-- Every encoding is 13 bytes long and its first byte is below 32 (R66: `zext_8(id[28:24])`). -/
def Statement (i : Instr) : Prop :=
  ∀ bs, encode i = some bs → bs.length = 13 ∧ ∃ b rest, bs = b :: rest ∧ b.toNat < 32

/-- The bytes of any stored frame. -/
theorem bytesOfFrame_spec (w : WFrame) :
    (bytesOfFrame w).length = 13 ∧ ∃ b rest, bytesOfFrame w = b :: rest ∧ b.toNat < 32 := by
  refine ⟨rfl, _, _, rfl, ?_⟩
  have h := (w.id.extractLsb' 24 5).isLt
  simp only [idb0, BitVec.toNat_setWidth]
  omega

/-- A dispatch case's encoding is its frame's bytes. -/
theorem statement_of_frame {i : Instr} {f : Frame} (h : i.frame? = some f) : Statement i := by
  intro bs e
  simp only [encode, h, Option.map_some, Option.some.injEq] at e
  exact e ▸ bytesOfFrame_spec (wire f)

/-- A block operation has no encoding. -/
theorem statement_of_none {i : Instr} (h : i.frame? = none) : Statement i := by
  intro bs e
  simp [encode, h] at e

theorem rejectSrcBcast (f : Frame) : Statement (.rejectSrcBcast f) := statement_of_frame rfl
theorem discover (f : Frame) : Statement (.discover f) := statement_of_frame rfl
theorem nodeReset (f : Frame) : Statement (.nodeReset f) := statement_of_frame rfl
theorem bcastInvalid (f : Frame) : Statement (.bcastInvalid f) := statement_of_frame rfl
theorem setReg (f : Frame) : Statement (.setReg f) := statement_of_frame rfl
theorem setRegNodeId (f : Frame) : Statement (.setRegNodeId f) := statement_of_frame rfl
theorem setRegReadOnly (f : Frame) : Statement (.setRegReadOnly f) := statement_of_frame rfl
theorem setRegUnassigned (f : Frame) : Statement (.setRegUnassigned f) := statement_of_frame rfl
theorem getReg (f : Frame) : Statement (.getReg f) := statement_of_frame rfl
theorem getRegStandard (f : Frame) : Statement (.getRegStandard f) := statement_of_frame rfl
theorem getRegUnassigned (f : Frame) : Statement (.getRegUnassigned f) := statement_of_frame rfl
theorem nodeUpgrade (f : Frame) : Statement (.nodeUpgrade f) := statement_of_frame rfl
theorem setBit (f : Frame) : Statement (.setBit f) := statement_of_frame rfl
theorem clearBit (f : Frame) : Statement (.clearBit f) := statement_of_frame rfl
theorem toggleBit (f : Frame) : Statement (.toggleBit f) := statement_of_frame rfl
theorem nodeInvalid (f : Frame) : Statement (.nodeInvalid f) := statement_of_frame rfl
theorem remotePassThrough (f : Frame) : Statement (.remotePassThrough f) := statement_of_frame rfl
theorem noMatch (f : Frame) : Statement (.noMatch f) := statement_of_frame rfl
theorem encode (prio typ seq dst src : Nat) : Statement (.encode prio typ seq dst src) := statement_of_none rfl
theorem decode (id : WireId) : Statement (.decode id) := statement_of_none rfl
theorem breq (typ : TypeCode) (dst : Addr) : Statement (.breq typ dst) := statement_of_none rfl
theorem poll : Statement .poll := statement_of_none rfl
theorem submit (w : WFrame) : Statement (.submit w) := statement_of_none rfl
theorem init (ans : Option Addr) : Statement (.init ans) := statement_of_none rfl
theorem rx (w : WFrame) : Statement (.rx w) := statement_of_none rfl
theorem txdoneC : Statement .txdoneC := statement_of_none rfl
theorem txdoneH : Statement .txdoneH := statement_of_none rfl
theorem syncW : Statement .syncW := statement_of_none rfl
theorem syncR : Statement .syncR := statement_of_none rfl

end Sys2Proof.Laws.EncodedLength
end

