-- ==== Sys2Proof/Laws/State.lean ====
section
/-! SUPPORT. One lemma per field per named update of the state, each true by definition. -/

namespace Sys2Proof.Machine

/-! ### `emit` -/

@[simp] theorem emit_rxMem (e : Event) (s : State) : (emit e s).rxMem = s.rxMem := rfl
@[simp] theorem emit_rxWr (e : Event) (s : State) : (emit e s).rxWr = s.rxWr := rfl
@[simp] theorem emit_rxRd (e : Event) (s : State) : (emit e s).rxRd = s.rxRd := rfl
@[simp] theorem emit_rxWrV (e : Event) (s : State) : (emit e s).rxWrV = s.rxWrV := rfl
@[simp] theorem emit_rxRdV (e : Event) (s : State) : (emit e s).rxRdV = s.rxRdV := rfl
@[simp] theorem emit_txMem (e : Event) (s : State) : (emit e s).txMem = s.txMem := rfl
@[simp] theorem emit_txWr (e : Event) (s : State) : (emit e s).txWr = s.txWr := rfl
@[simp] theorem emit_txRd (e : Event) (s : State) : (emit e s).txRd = s.txRd := rfl
@[simp] theorem emit_txInflight (e : Event) (s : State) :
    (emit e s).txInflight = s.txInflight := rfl
@[simp] theorem emit_txdonePending (e : Event) (s : State) :
    (emit e s).txdonePending = s.txdonePending := rfl
@[simp] theorem emit_nodeAddr (e : Event) (s : State) : (emit e s).nodeAddr = s.nodeAddr := rfl
@[simp] theorem emit_seq (e : Event) (s : State) : (emit e s).seq = s.seq := rfl
@[simp] theorem emit_fsm (e : Event) (s : State) : (emit e s).fsm = s.fsm := rfl
@[simp] theorem emit_cur (e : Event) (s : State) : (emit e s).cur = s.cur := rfl
@[simp] theorem emit_pend (e : Event) (s : State) : (emit e s).pend = s.pend := rfl
@[simp] theorem emit_outcome (e : Event) (s : State) : (emit e s).outcome = s.outcome := rfl
@[simp] theorem emit_ready (e : Event) (s : State) : (emit e s).ready = s.ready := rfl
@[simp] theorem emit_halt (e : Event) (s : State) : (emit e s).halt = s.halt := rfl
@[simp] theorem emit_hist (e : Event) (s : State) : (emit e s).hist = s.hist ++ [e] := rfl
@[simp] theorem emit_sending (e : Event) (s : State) : (emit e s).sending = s.sending := rfl
@[simp] theorem emit_resetCause (e : Event) (s : State) :
    (emit e s).resetCause = s.resetCause := rfl
@[simp] theorem emit_pollReq (e : Event) (s : State) : (emit e s).pollReq = s.pollReq := rfl
@[simp] theorem emit_subReq (e : Event) (s : State) : (emit e s).subReq = s.subReq := rfl
@[simp] theorem emit_breqReq (e : Event) (s : State) : (emit e s).breqReq = s.breqReq := rfl
@[simp] theorem emit_encId (e : Event) (s : State) : (emit e s).encId = s.encId := rfl
@[simp] theorem emit_decOut (e : Event) (s : State) : (emit e s).decOut = s.decOut := rfl
@[simp] theorem emit_cfg (e : Event) (s : State) : (emit e s).cfg = s.cfg := rfl
@[simp] theorem emit_agenda (e : Event) (s : State) : (emit e s).agenda = s.agenda := rfl
@[simp] theorem emit_draws (e : Event) (s : State) : (emit e s).draws = s.draws := rfl

/-! ### `startTx` -/

@[simp] theorem startTx_rxMem (w : WFrame) (s : State) : (startTx w s).rxMem = s.rxMem := rfl
@[simp] theorem startTx_rxWr (w : WFrame) (s : State) : (startTx w s).rxWr = s.rxWr := rfl
@[simp] theorem startTx_rxRd (w : WFrame) (s : State) : (startTx w s).rxRd = s.rxRd := rfl
@[simp] theorem startTx_rxWrV (w : WFrame) (s : State) : (startTx w s).rxWrV = s.rxWrV := rfl
@[simp] theorem startTx_rxRdV (w : WFrame) (s : State) : (startTx w s).rxRdV = s.rxRdV := rfl
@[simp] theorem startTx_txMem (w : WFrame) (s : State) : (startTx w s).txMem = s.txMem := rfl
@[simp] theorem startTx_txWr (w : WFrame) (s : State) : (startTx w s).txWr = s.txWr := rfl
@[simp] theorem startTx_txRd (w : WFrame) (s : State) : (startTx w s).txRd = s.txRd := rfl
@[simp] theorem startTx_txInflight (w : WFrame) (s : State) :
    (startTx w s).txInflight = s.txInflight := rfl
@[simp] theorem startTx_txdonePending (w : WFrame) (s : State) :
    (startTx w s).txdonePending = s.txdonePending := rfl
@[simp] theorem startTx_nodeAddr (w : WFrame) (s : State) :
    (startTx w s).nodeAddr = s.nodeAddr := rfl
@[simp] theorem startTx_seq (w : WFrame) (s : State) : (startTx w s).seq = s.seq := rfl
@[simp] theorem startTx_fsm (w : WFrame) (s : State) : (startTx w s).fsm = s.fsm := rfl
@[simp] theorem startTx_cur (w : WFrame) (s : State) : (startTx w s).cur = s.cur := rfl
@[simp] theorem startTx_pend (w : WFrame) (s : State) : (startTx w s).pend = s.pend := rfl
@[simp] theorem startTx_outcome (w : WFrame) (s : State) : (startTx w s).outcome = s.outcome := rfl
@[simp] theorem startTx_ready (w : WFrame) (s : State) : (startTx w s).ready = s.ready := rfl
@[simp] theorem startTx_halt (w : WFrame) (s : State) : (startTx w s).halt = s.halt := rfl
@[simp] theorem startTx_hist (w : WFrame) (s : State) :
    (startTx w s).hist = s.hist ++ [.txStart w] := rfl
@[simp] theorem startTx_sending (w : WFrame) (s : State) : (startTx w s).sending = some w := rfl
@[simp] theorem startTx_resetCause (w : WFrame) (s : State) :
    (startTx w s).resetCause = s.resetCause := rfl
@[simp] theorem startTx_pollReq (w : WFrame) (s : State) : (startTx w s).pollReq = s.pollReq := rfl
@[simp] theorem startTx_subReq (w : WFrame) (s : State) : (startTx w s).subReq = s.subReq := rfl
@[simp] theorem startTx_breqReq (w : WFrame) (s : State) : (startTx w s).breqReq = s.breqReq := rfl
@[simp] theorem startTx_encId (w : WFrame) (s : State) : (startTx w s).encId = s.encId := rfl
@[simp] theorem startTx_decOut (w : WFrame) (s : State) : (startTx w s).decOut = s.decOut := rfl
@[simp] theorem startTx_cfg (w : WFrame) (s : State) : (startTx w s).cfg = s.cfg := rfl
@[simp] theorem startTx_agenda (w : WFrame) (s : State) : (startTx w s).agenda = s.agenda := rfl
@[simp] theorem startTx_draws (w : WFrame) (s : State) : (startTx w s).draws = s.draws := rfl

/-! ### `respond` -/

@[simp] theorem respond_rxMem (t : MsgType) (p : List Byte) (f : Frame) (s : State) :
    (respond t p f s).rxMem = s.rxMem := rfl
@[simp] theorem respond_rxWr (t : MsgType) (p : List Byte) (f : Frame) (s : State) :
    (respond t p f s).rxWr = s.rxWr := rfl
@[simp] theorem respond_rxRd (t : MsgType) (p : List Byte) (f : Frame) (s : State) :
    (respond t p f s).rxRd = s.rxRd := rfl
@[simp] theorem respond_rxWrV (t : MsgType) (p : List Byte) (f : Frame) (s : State) :
    (respond t p f s).rxWrV = s.rxWrV := rfl
@[simp] theorem respond_rxRdV (t : MsgType) (p : List Byte) (f : Frame) (s : State) :
    (respond t p f s).rxRdV = s.rxRdV := rfl
@[simp] theorem respond_txMem (t : MsgType) (p : List Byte) (f : Frame) (s : State) :
    (respond t p f s).txMem = s.txMem := rfl
@[simp] theorem respond_txWr (t : MsgType) (p : List Byte) (f : Frame) (s : State) :
    (respond t p f s).txWr = s.txWr := rfl
@[simp] theorem respond_txRd (t : MsgType) (p : List Byte) (f : Frame) (s : State) :
    (respond t p f s).txRd = s.txRd := rfl
@[simp] theorem respond_txInflight (t : MsgType) (p : List Byte) (f : Frame) (s : State) :
    (respond t p f s).txInflight = s.txInflight := rfl
@[simp] theorem respond_txdonePending (t : MsgType) (p : List Byte) (f : Frame) (s : State) :
    (respond t p f s).txdonePending = s.txdonePending := rfl
@[simp] theorem respond_nodeAddr (t : MsgType) (p : List Byte) (f : Frame) (s : State) :
    (respond t p f s).nodeAddr = s.nodeAddr := rfl
@[simp] theorem respond_seq (t : MsgType) (p : List Byte) (f : Frame) (s : State) :
    (respond t p f s).seq = s.seq := rfl
@[simp] theorem respond_fsm (t : MsgType) (p : List Byte) (f : Frame) (s : State) :
    (respond t p f s).fsm = .respond := rfl
@[simp] theorem respond_cur (t : MsgType) (p : List Byte) (f : Frame) (s : State) :
    (respond t p f s).cur = s.cur := rfl
@[simp] theorem respond_pend (t : MsgType) (p : List Byte) (f : Frame) (s : State) :
    (respond t p f s).pend = some (responseFrame t p f s) := rfl
@[simp] theorem respond_outcome (t : MsgType) (p : List Byte) (f : Frame) (s : State) :
    (respond t p f s).outcome = .handled := rfl
@[simp] theorem respond_ready (t : MsgType) (p : List Byte) (f : Frame) (s : State) :
    (respond t p f s).ready = s.ready := rfl
@[simp] theorem respond_halt (t : MsgType) (p : List Byte) (f : Frame) (s : State) :
    (respond t p f s).halt = s.halt := rfl
@[simp] theorem respond_hist (t : MsgType) (p : List Byte) (f : Frame) (s : State) :
    (respond t p f s).hist = s.hist := rfl
@[simp] theorem respond_sending (t : MsgType) (p : List Byte) (f : Frame) (s : State) :
    (respond t p f s).sending = s.sending := rfl
@[simp] theorem respond_resetCause (t : MsgType) (p : List Byte) (f : Frame) (s : State) :
    (respond t p f s).resetCause = s.resetCause := rfl
@[simp] theorem respond_pollReq (t : MsgType) (p : List Byte) (f : Frame) (s : State) :
    (respond t p f s).pollReq = s.pollReq := rfl
@[simp] theorem respond_subReq (t : MsgType) (p : List Byte) (f : Frame) (s : State) :
    (respond t p f s).subReq = s.subReq := rfl
@[simp] theorem respond_breqReq (t : MsgType) (p : List Byte) (f : Frame) (s : State) :
    (respond t p f s).breqReq = s.breqReq := rfl
@[simp] theorem respond_encId (t : MsgType) (p : List Byte) (f : Frame) (s : State) :
    (respond t p f s).encId = s.encId := rfl
@[simp] theorem respond_decOut (t : MsgType) (p : List Byte) (f : Frame) (s : State) :
    (respond t p f s).decOut = s.decOut := rfl
@[simp] theorem respond_cfg (t : MsgType) (p : List Byte) (f : Frame) (s : State) :
    (respond t p f s).cfg = s.cfg := rfl
@[simp] theorem respond_agenda (t : MsgType) (p : List Byte) (f : Frame) (s : State) :
    (respond t p f s).agenda = s.agenda := rfl
@[simp] theorem respond_draws (t : MsgType) (p : List Byte) (f : Frame) (s : State) :
    (respond t p f s).draws = s.draws := rfl

/-! ### `raiseError` -/

@[simp] theorem raiseError_rxMem (e : ErrName) (f : Frame) (s : State) :
    (raiseError e f s).rxMem = s.rxMem := rfl
@[simp] theorem raiseError_rxWr (e : ErrName) (f : Frame) (s : State) :
    (raiseError e f s).rxWr = s.rxWr := rfl
@[simp] theorem raiseError_rxRd (e : ErrName) (f : Frame) (s : State) :
    (raiseError e f s).rxRd = s.rxRd := rfl
@[simp] theorem raiseError_rxWrV (e : ErrName) (f : Frame) (s : State) :
    (raiseError e f s).rxWrV = s.rxWrV := rfl
@[simp] theorem raiseError_rxRdV (e : ErrName) (f : Frame) (s : State) :
    (raiseError e f s).rxRdV = s.rxRdV := rfl
@[simp] theorem raiseError_txMem (e : ErrName) (f : Frame) (s : State) :
    (raiseError e f s).txMem = s.txMem := rfl
@[simp] theorem raiseError_txWr (e : ErrName) (f : Frame) (s : State) :
    (raiseError e f s).txWr = s.txWr := rfl
@[simp] theorem raiseError_txRd (e : ErrName) (f : Frame) (s : State) :
    (raiseError e f s).txRd = s.txRd := rfl
@[simp] theorem raiseError_txInflight (e : ErrName) (f : Frame) (s : State) :
    (raiseError e f s).txInflight = s.txInflight := rfl
@[simp] theorem raiseError_txdonePending (e : ErrName) (f : Frame) (s : State) :
    (raiseError e f s).txdonePending = s.txdonePending := rfl
@[simp] theorem raiseError_nodeAddr (e : ErrName) (f : Frame) (s : State) :
    (raiseError e f s).nodeAddr = s.nodeAddr := rfl
@[simp] theorem raiseError_seq (e : ErrName) (f : Frame) (s : State) :
    (raiseError e f s).seq = s.seq := rfl
@[simp] theorem raiseError_fsm (e : ErrName) (f : Frame) (s : State) :
    (raiseError e f s).fsm = .respond := rfl
@[simp] theorem raiseError_cur (e : ErrName) (f : Frame) (s : State) :
    (raiseError e f s).cur = s.cur := rfl
@[simp] theorem raiseError_pend (e : ErrName) (f : Frame) (s : State) :
    (raiseError e f s).pend = some (responseFrame .error [errCodeOf s.cfg e] f s) := rfl
@[simp] theorem raiseError_outcome (e : ErrName) (f : Frame) (s : State) :
    (raiseError e f s).outcome = .handled := rfl
@[simp] theorem raiseError_ready (e : ErrName) (f : Frame) (s : State) :
    (raiseError e f s).ready = s.ready := rfl
@[simp] theorem raiseError_halt (e : ErrName) (f : Frame) (s : State) :
    (raiseError e f s).halt = s.halt := rfl
@[simp] theorem raiseError_hist (e : ErrName) (f : Frame) (s : State) :
    (raiseError e f s).hist = s.hist := rfl
@[simp] theorem raiseError_sending (e : ErrName) (f : Frame) (s : State) :
    (raiseError e f s).sending = s.sending := rfl
@[simp] theorem raiseError_resetCause (e : ErrName) (f : Frame) (s : State) :
    (raiseError e f s).resetCause = s.resetCause := rfl
@[simp] theorem raiseError_pollReq (e : ErrName) (f : Frame) (s : State) :
    (raiseError e f s).pollReq = s.pollReq := rfl
@[simp] theorem raiseError_subReq (e : ErrName) (f : Frame) (s : State) :
    (raiseError e f s).subReq = s.subReq := rfl
@[simp] theorem raiseError_breqReq (e : ErrName) (f : Frame) (s : State) :
    (raiseError e f s).breqReq = s.breqReq := rfl
@[simp] theorem raiseError_encId (e : ErrName) (f : Frame) (s : State) :
    (raiseError e f s).encId = s.encId := rfl
@[simp] theorem raiseError_decOut (e : ErrName) (f : Frame) (s : State) :
    (raiseError e f s).decOut = s.decOut := rfl
@[simp] theorem raiseError_cfg (e : ErrName) (f : Frame) (s : State) :
    (raiseError e f s).cfg = s.cfg := rfl
@[simp] theorem raiseError_agenda (e : ErrName) (f : Frame) (s : State) :
    (raiseError e f s).agenda = s.agenda := rfl
@[simp] theorem raiseError_draws (e : ErrName) (f : Frame) (s : State) :
    (raiseError e f s).draws = s.draws := rfl

/-! ### `finishPoll` -/

@[simp] theorem finishPoll_rxMem (r : PollResult) (w : WFrame) (s : State) :
    (finishPoll r w s).rxMem = s.rxMem := rfl
@[simp] theorem finishPoll_rxWr (r : PollResult) (w : WFrame) (s : State) :
    (finishPoll r w s).rxWr = s.rxWr := rfl
@[simp] theorem finishPoll_rxRd (r : PollResult) (w : WFrame) (s : State) :
    (finishPoll r w s).rxRd = s.rxRd := rfl
@[simp] theorem finishPoll_rxWrV (r : PollResult) (w : WFrame) (s : State) :
    (finishPoll r w s).rxWrV = s.rxWrV := rfl
@[simp] theorem finishPoll_rxRdV (r : PollResult) (w : WFrame) (s : State) :
    (finishPoll r w s).rxRdV = s.rxRdV := rfl
@[simp] theorem finishPoll_txMem (r : PollResult) (w : WFrame) (s : State) :
    (finishPoll r w s).txMem = s.txMem := rfl
@[simp] theorem finishPoll_txWr (r : PollResult) (w : WFrame) (s : State) :
    (finishPoll r w s).txWr = s.txWr := rfl
@[simp] theorem finishPoll_txRd (r : PollResult) (w : WFrame) (s : State) :
    (finishPoll r w s).txRd = s.txRd := rfl
@[simp] theorem finishPoll_txInflight (r : PollResult) (w : WFrame) (s : State) :
    (finishPoll r w s).txInflight = s.txInflight := rfl
@[simp] theorem finishPoll_txdonePending (r : PollResult) (w : WFrame) (s : State) :
    (finishPoll r w s).txdonePending = s.txdonePending := rfl
@[simp] theorem finishPoll_nodeAddr (r : PollResult) (w : WFrame) (s : State) :
    (finishPoll r w s).nodeAddr = s.nodeAddr := rfl
@[simp] theorem finishPoll_seq (r : PollResult) (w : WFrame) (s : State) :
    (finishPoll r w s).seq = s.seq := rfl
@[simp] theorem finishPoll_fsm (r : PollResult) (w : WFrame) (s : State) :
    (finishPoll r w s).fsm = .idle := rfl
@[simp] theorem finishPoll_cur (r : PollResult) (w : WFrame) (s : State) :
    (finishPoll r w s).cur = s.cur := rfl
@[simp] theorem finishPoll_pend (r : PollResult) (w : WFrame) (s : State) :
    (finishPoll r w s).pend = s.pend := rfl
@[simp] theorem finishPoll_outcome (r : PollResult) (w : WFrame) (s : State) :
    (finishPoll r w s).outcome = s.outcome := rfl
@[simp] theorem finishPoll_ready (r : PollResult) (w : WFrame) (s : State) :
    (finishPoll r w s).ready = s.ready := rfl
@[simp] theorem finishPoll_halt (r : PollResult) (w : WFrame) (s : State) :
    (finishPoll r w s).halt = s.halt := rfl
@[simp] theorem finishPoll_hist (r : PollResult) (w : WFrame) (s : State) :
    (finishPoll r w s).hist = s.hist ++ [.pollAck r .none w] := rfl
@[simp] theorem finishPoll_sending (r : PollResult) (w : WFrame) (s : State) :
    (finishPoll r w s).sending = s.sending := rfl
@[simp] theorem finishPoll_resetCause (r : PollResult) (w : WFrame) (s : State) :
    (finishPoll r w s).resetCause = s.resetCause := rfl
@[simp] theorem finishPoll_pollReq (r : PollResult) (w : WFrame) (s : State) :
    (finishPoll r w s).pollReq = s.pollReq := rfl
@[simp] theorem finishPoll_subReq (r : PollResult) (w : WFrame) (s : State) :
    (finishPoll r w s).subReq = s.subReq := rfl
@[simp] theorem finishPoll_breqReq (r : PollResult) (w : WFrame) (s : State) :
    (finishPoll r w s).breqReq = s.breqReq := rfl
@[simp] theorem finishPoll_encId (r : PollResult) (w : WFrame) (s : State) :
    (finishPoll r w s).encId = s.encId := rfl
@[simp] theorem finishPoll_decOut (r : PollResult) (w : WFrame) (s : State) :
    (finishPoll r w s).decOut = s.decOut := rfl
@[simp] theorem finishPoll_cfg (r : PollResult) (w : WFrame) (s : State) :
    (finishPoll r w s).cfg = s.cfg := rfl
@[simp] theorem finishPoll_agenda (r : PollResult) (w : WFrame) (s : State) :
    (finishPoll r w s).agenda = s.agenda := rfl
@[simp] theorem finishPoll_draws (r : PollResult) (w : WFrame) (s : State) :
    (finishPoll r w s).draws = s.draws := rfl

/-! ### `delegate` -/

@[simp] theorem delegate_rxMem (f : Frame) (s : State) : (delegate f s).rxMem = s.rxMem := rfl
@[simp] theorem delegate_rxWr (f : Frame) (s : State) : (delegate f s).rxWr = s.rxWr := rfl
@[simp] theorem delegate_rxRd (f : Frame) (s : State) : (delegate f s).rxRd = s.rxRd := rfl
@[simp] theorem delegate_rxWrV (f : Frame) (s : State) : (delegate f s).rxWrV = s.rxWrV := rfl
@[simp] theorem delegate_rxRdV (f : Frame) (s : State) : (delegate f s).rxRdV = s.rxRdV := rfl
@[simp] theorem delegate_txMem (f : Frame) (s : State) : (delegate f s).txMem = s.txMem := rfl
@[simp] theorem delegate_txWr (f : Frame) (s : State) : (delegate f s).txWr = s.txWr := rfl
@[simp] theorem delegate_txRd (f : Frame) (s : State) : (delegate f s).txRd = s.txRd := rfl
@[simp] theorem delegate_txInflight (f : Frame) (s : State) :
    (delegate f s).txInflight = s.txInflight := rfl
@[simp] theorem delegate_txdonePending (f : Frame) (s : State) :
    (delegate f s).txdonePending = s.txdonePending := rfl
@[simp] theorem delegate_nodeAddr (f : Frame) (s : State) :
    (delegate f s).nodeAddr = s.nodeAddr := rfl
@[simp] theorem delegate_seq (f : Frame) (s : State) : (delegate f s).seq = s.seq := rfl
@[simp] theorem delegate_fsm (f : Frame) (s : State) : (delegate f s).fsm = .idle := rfl
@[simp] theorem delegate_cur (f : Frame) (s : State) : (delegate f s).cur = s.cur := rfl
@[simp] theorem delegate_pend (f : Frame) (s : State) : (delegate f s).pend = s.pend := rfl
@[simp] theorem delegate_outcome (f : Frame) (s : State) : (delegate f s).outcome = s.outcome := rfl
@[simp] theorem delegate_ready (f : Frame) (s : State) : (delegate f s).ready = s.ready := rfl
@[simp] theorem delegate_halt (f : Frame) (s : State) : (delegate f s).halt = s.halt := rfl
@[simp] theorem delegate_hist (f : Frame) (s : State) :
    (delegate f s).hist = s.hist ++ [.pollAck .delegate .none (wire f)] := rfl
@[simp] theorem delegate_sending (f : Frame) (s : State) : (delegate f s).sending = s.sending := rfl
@[simp] theorem delegate_resetCause (f : Frame) (s : State) :
    (delegate f s).resetCause = s.resetCause := rfl
@[simp] theorem delegate_pollReq (f : Frame) (s : State) : (delegate f s).pollReq = s.pollReq := rfl
@[simp] theorem delegate_subReq (f : Frame) (s : State) : (delegate f s).subReq = s.subReq := rfl
@[simp] theorem delegate_breqReq (f : Frame) (s : State) : (delegate f s).breqReq = s.breqReq := rfl
@[simp] theorem delegate_encId (f : Frame) (s : State) : (delegate f s).encId = s.encId := rfl
@[simp] theorem delegate_decOut (f : Frame) (s : State) : (delegate f s).decOut = s.decOut := rfl
@[simp] theorem delegate_cfg (f : Frame) (s : State) : (delegate f s).cfg = s.cfg := rfl
@[simp] theorem delegate_agenda (f : Frame) (s : State) : (delegate f s).agenda = s.agenda := rfl
@[simp] theorem delegate_draws (f : Frame) (s : State) : (delegate f s).draws = s.draws := rfl

/-! ### `trigger` -/

@[simp] theorem trigger_rxMem (h : Halt) (e : Event) (s : State) :
    (trigger h e s).rxMem = s.rxMem := rfl
@[simp] theorem trigger_rxWr (h : Halt) (e : Event) (s : State) :
    (trigger h e s).rxWr = s.rxWr := rfl
@[simp] theorem trigger_rxRd (h : Halt) (e : Event) (s : State) :
    (trigger h e s).rxRd = s.rxRd := rfl
@[simp] theorem trigger_rxWrV (h : Halt) (e : Event) (s : State) :
    (trigger h e s).rxWrV = s.rxWrV := rfl
@[simp] theorem trigger_rxRdV (h : Halt) (e : Event) (s : State) :
    (trigger h e s).rxRdV = s.rxRdV := rfl
@[simp] theorem trigger_txMem (h : Halt) (e : Event) (s : State) :
    (trigger h e s).txMem = s.txMem := rfl
@[simp] theorem trigger_txWr (h : Halt) (e : Event) (s : State) :
    (trigger h e s).txWr = s.txWr := rfl
@[simp] theorem trigger_txRd (h : Halt) (e : Event) (s : State) :
    (trigger h e s).txRd = s.txRd := rfl
@[simp] theorem trigger_txInflight (h : Halt) (e : Event) (s : State) :
    (trigger h e s).txInflight = s.txInflight := rfl
@[simp] theorem trigger_txdonePending (h : Halt) (e : Event) (s : State) :
    (trigger h e s).txdonePending = s.txdonePending := rfl
@[simp] theorem trigger_nodeAddr (h : Halt) (e : Event) (s : State) :
    (trigger h e s).nodeAddr = s.nodeAddr := rfl
@[simp] theorem trigger_seq (h : Halt) (e : Event) (s : State) : (trigger h e s).seq = s.seq := rfl
@[simp] theorem trigger_fsm (h : Halt) (e : Event) (s : State) :
    (trigger h e s).fsm = .terminal := rfl
@[simp] theorem trigger_cur (h : Halt) (e : Event) (s : State) : (trigger h e s).cur = s.cur := rfl
@[simp] theorem trigger_pend (h : Halt) (e : Event) (s : State) :
    (trigger h e s).pend = s.pend := rfl
@[simp] theorem trigger_outcome (h : Halt) (e : Event) (s : State) :
    (trigger h e s).outcome = s.outcome := rfl
@[simp] theorem trigger_ready (h : Halt) (e : Event) (s : State) :
    (trigger h e s).ready = s.ready := rfl
@[simp] theorem trigger_halt (h : Halt) (e : Event) (s : State) : (trigger h e s).halt = h := rfl
@[simp] theorem trigger_hist (h : Halt) (e : Event) (s : State) :
    (trigger h e s).hist = s.hist ++ [e] := rfl
@[simp] theorem trigger_sending (h : Halt) (e : Event) (s : State) :
    (trigger h e s).sending = s.sending := rfl
@[simp] theorem trigger_resetCause (h : Halt) (e : Event) (s : State) :
    (trigger h e s).resetCause = s.resetCause := rfl
@[simp] theorem trigger_pollReq (h : Halt) (e : Event) (s : State) :
    (trigger h e s).pollReq = s.pollReq := rfl
@[simp] theorem trigger_subReq (h : Halt) (e : Event) (s : State) :
    (trigger h e s).subReq = s.subReq := rfl
@[simp] theorem trigger_breqReq (h : Halt) (e : Event) (s : State) :
    (trigger h e s).breqReq = s.breqReq := rfl
@[simp] theorem trigger_encId (h : Halt) (e : Event) (s : State) :
    (trigger h e s).encId = s.encId := rfl
@[simp] theorem trigger_decOut (h : Halt) (e : Event) (s : State) :
    (trigger h e s).decOut = s.decOut := rfl
@[simp] theorem trigger_cfg (h : Halt) (e : Event) (s : State) : (trigger h e s).cfg = s.cfg := rfl
@[simp] theorem trigger_agenda (h : Halt) (e : Event) (s : State) :
    (trigger h e s).agenda = s.agenda := rfl
@[simp] theorem trigger_draws (h : Halt) (e : Event) (s : State) :
    (trigger h e s).draws = s.draws := rfl

/-! ### `storeNodeAddr` -/

@[simp] theorem storeNodeAddr_rxMem (v : Addr) (s : State) :
    (storeNodeAddr v s).rxMem = s.rxMem := rfl
@[simp] theorem storeNodeAddr_rxWr (v : Addr) (s : State) : (storeNodeAddr v s).rxWr = s.rxWr := rfl
@[simp] theorem storeNodeAddr_rxRd (v : Addr) (s : State) : (storeNodeAddr v s).rxRd = s.rxRd := rfl
@[simp] theorem storeNodeAddr_rxWrV (v : Addr) (s : State) :
    (storeNodeAddr v s).rxWrV = s.rxWrV := rfl
@[simp] theorem storeNodeAddr_rxRdV (v : Addr) (s : State) :
    (storeNodeAddr v s).rxRdV = s.rxRdV := rfl
@[simp] theorem storeNodeAddr_txMem (v : Addr) (s : State) :
    (storeNodeAddr v s).txMem = s.txMem := rfl
@[simp] theorem storeNodeAddr_txWr (v : Addr) (s : State) : (storeNodeAddr v s).txWr = s.txWr := rfl
@[simp] theorem storeNodeAddr_txRd (v : Addr) (s : State) : (storeNodeAddr v s).txRd = s.txRd := rfl
@[simp] theorem storeNodeAddr_txInflight (v : Addr) (s : State) :
    (storeNodeAddr v s).txInflight = s.txInflight := rfl
@[simp] theorem storeNodeAddr_txdonePending (v : Addr) (s : State) :
    (storeNodeAddr v s).txdonePending = s.txdonePending := rfl
@[simp] theorem storeNodeAddr_nodeAddr (v : Addr) (s : State) :
    (storeNodeAddr v s).nodeAddr = v := rfl
@[simp] theorem storeNodeAddr_seq (v : Addr) (s : State) : (storeNodeAddr v s).seq = s.seq := rfl
@[simp] theorem storeNodeAddr_fsm (v : Addr) (s : State) : (storeNodeAddr v s).fsm = s.fsm := rfl
@[simp] theorem storeNodeAddr_cur (v : Addr) (s : State) : (storeNodeAddr v s).cur = s.cur := rfl
@[simp] theorem storeNodeAddr_pend (v : Addr) (s : State) : (storeNodeAddr v s).pend = s.pend := rfl
@[simp] theorem storeNodeAddr_outcome (v : Addr) (s : State) :
    (storeNodeAddr v s).outcome = s.outcome := rfl
@[simp] theorem storeNodeAddr_ready (v : Addr) (s : State) :
    (storeNodeAddr v s).ready = s.ready := rfl
@[simp] theorem storeNodeAddr_halt (v : Addr) (s : State) : (storeNodeAddr v s).halt = s.halt := rfl
@[simp] theorem storeNodeAddr_hist (v : Addr) (s : State) :
    (storeNodeAddr v s).hist = s.hist ++ [.persistStore v] := rfl
@[simp] theorem storeNodeAddr_sending (v : Addr) (s : State) :
    (storeNodeAddr v s).sending = s.sending := rfl
@[simp] theorem storeNodeAddr_resetCause (v : Addr) (s : State) :
    (storeNodeAddr v s).resetCause = s.resetCause := rfl
@[simp] theorem storeNodeAddr_pollReq (v : Addr) (s : State) :
    (storeNodeAddr v s).pollReq = s.pollReq := rfl
@[simp] theorem storeNodeAddr_subReq (v : Addr) (s : State) :
    (storeNodeAddr v s).subReq = s.subReq := rfl
@[simp] theorem storeNodeAddr_breqReq (v : Addr) (s : State) :
    (storeNodeAddr v s).breqReq = s.breqReq := rfl
@[simp] theorem storeNodeAddr_encId (v : Addr) (s : State) :
    (storeNodeAddr v s).encId = s.encId := rfl
@[simp] theorem storeNodeAddr_decOut (v : Addr) (s : State) :
    (storeNodeAddr v s).decOut = s.decOut := rfl
@[simp] theorem storeNodeAddr_cfg (v : Addr) (s : State) : (storeNodeAddr v s).cfg = s.cfg := rfl
@[simp] theorem storeNodeAddr_agenda (v : Addr) (s : State) :
    (storeNodeAddr v s).agenda = s.agenda := rfl
@[simp] theorem storeNodeAddr_draws (v : Addr) (s : State) :
    (storeNodeAddr v s).draws = s.draws := rfl

/-! ### `buildRequest` -/

@[simp] theorem buildRequest_rxMem (typ : TypeCode) (dst : Addr) (s : State) :
    (buildRequest typ dst s).rxMem = s.rxMem := rfl
@[simp] theorem buildRequest_rxWr (typ : TypeCode) (dst : Addr) (s : State) :
    (buildRequest typ dst s).rxWr = s.rxWr := rfl
@[simp] theorem buildRequest_rxRd (typ : TypeCode) (dst : Addr) (s : State) :
    (buildRequest typ dst s).rxRd = s.rxRd := rfl
@[simp] theorem buildRequest_rxWrV (typ : TypeCode) (dst : Addr) (s : State) :
    (buildRequest typ dst s).rxWrV = s.rxWrV := rfl
@[simp] theorem buildRequest_rxRdV (typ : TypeCode) (dst : Addr) (s : State) :
    (buildRequest typ dst s).rxRdV = s.rxRdV := rfl
@[simp] theorem buildRequest_txMem (typ : TypeCode) (dst : Addr) (s : State) :
    (buildRequest typ dst s).txMem = s.txMem := rfl
@[simp] theorem buildRequest_txWr (typ : TypeCode) (dst : Addr) (s : State) :
    (buildRequest typ dst s).txWr = s.txWr := rfl
@[simp] theorem buildRequest_txRd (typ : TypeCode) (dst : Addr) (s : State) :
    (buildRequest typ dst s).txRd = s.txRd := rfl
@[simp] theorem buildRequest_txInflight (typ : TypeCode) (dst : Addr) (s : State) :
    (buildRequest typ dst s).txInflight = s.txInflight := rfl
@[simp] theorem buildRequest_txdonePending (typ : TypeCode) (dst : Addr) (s : State) :
    (buildRequest typ dst s).txdonePending = s.txdonePending := rfl
@[simp] theorem buildRequest_nodeAddr (typ : TypeCode) (dst : Addr) (s : State) :
    (buildRequest typ dst s).nodeAddr = s.nodeAddr := rfl
@[simp] theorem buildRequest_seq (typ : TypeCode) (dst : Addr) (s : State) :
    (buildRequest typ dst s).seq = s.seq + 1 := rfl
@[simp] theorem buildRequest_fsm (typ : TypeCode) (dst : Addr) (s : State) :
    (buildRequest typ dst s).fsm = s.fsm := rfl
@[simp] theorem buildRequest_cur (typ : TypeCode) (dst : Addr) (s : State) :
    (buildRequest typ dst s).cur = s.cur := rfl
@[simp] theorem buildRequest_pend (typ : TypeCode) (dst : Addr) (s : State) :
    (buildRequest typ dst s).pend = s.pend := rfl
@[simp] theorem buildRequest_outcome (typ : TypeCode) (dst : Addr) (s : State) :
    (buildRequest typ dst s).outcome = s.outcome := rfl
@[simp] theorem buildRequest_ready (typ : TypeCode) (dst : Addr) (s : State) :
    (buildRequest typ dst s).ready = s.ready := rfl
@[simp] theorem buildRequest_halt (typ : TypeCode) (dst : Addr) (s : State) :
    (buildRequest typ dst s).halt = s.halt := rfl
@[simp] theorem buildRequest_hist (typ : TypeCode) (dst : Addr) (s : State) :
    (buildRequest typ dst s).hist = s.hist ++ [.breqAck (encodeFields s.cfg.corePrio typ s.seq dst s.nodeAddr)] := rfl
@[simp] theorem buildRequest_sending (typ : TypeCode) (dst : Addr) (s : State) :
    (buildRequest typ dst s).sending = s.sending := rfl
@[simp] theorem buildRequest_resetCause (typ : TypeCode) (dst : Addr) (s : State) :
    (buildRequest typ dst s).resetCause = s.resetCause := rfl
@[simp] theorem buildRequest_pollReq (typ : TypeCode) (dst : Addr) (s : State) :
    (buildRequest typ dst s).pollReq = s.pollReq := rfl
@[simp] theorem buildRequest_subReq (typ : TypeCode) (dst : Addr) (s : State) :
    (buildRequest typ dst s).subReq = s.subReq := rfl
@[simp] theorem buildRequest_breqReq (typ : TypeCode) (dst : Addr) (s : State) :
    (buildRequest typ dst s).breqReq = s.breqReq := rfl
@[simp] theorem buildRequest_encId (typ : TypeCode) (dst : Addr) (s : State) :
    (buildRequest typ dst s).encId = s.encId := rfl
@[simp] theorem buildRequest_decOut (typ : TypeCode) (dst : Addr) (s : State) :
    (buildRequest typ dst s).decOut = s.decOut := rfl
@[simp] theorem buildRequest_cfg (typ : TypeCode) (dst : Addr) (s : State) :
    (buildRequest typ dst s).cfg = s.cfg := rfl
@[simp] theorem buildRequest_agenda (typ : TypeCode) (dst : Addr) (s : State) :
    (buildRequest typ dst s).agenda = s.agenda := rfl
@[simp] theorem buildRequest_draws (typ : TypeCode) (dst : Addr) (s : State) :
    (buildRequest typ dst s).draws = s.draws := rfl

/-! ### `publishWr` -/

@[simp] theorem publishWr_rxMem (s : State) : (publishWr s).rxMem = s.rxMem := rfl
@[simp] theorem publishWr_rxWr (s : State) : (publishWr s).rxWr = s.rxWr := rfl
@[simp] theorem publishWr_rxRd (s : State) : (publishWr s).rxRd = s.rxRd := rfl
@[simp] theorem publishWr_rxWrV (s : State) :
    (publishWr s).rxWrV = if s.cfg.cdcView = .exact then s.rxWr else s.rxWrV := rfl
@[simp] theorem publishWr_rxRdV (s : State) : (publishWr s).rxRdV = s.rxRdV := rfl
@[simp] theorem publishWr_txMem (s : State) : (publishWr s).txMem = s.txMem := rfl
@[simp] theorem publishWr_txWr (s : State) : (publishWr s).txWr = s.txWr := rfl
@[simp] theorem publishWr_txRd (s : State) : (publishWr s).txRd = s.txRd := rfl
@[simp] theorem publishWr_txInflight (s : State) : (publishWr s).txInflight = s.txInflight := rfl
@[simp] theorem publishWr_txdonePending (s : State) :
    (publishWr s).txdonePending = s.txdonePending := rfl
@[simp] theorem publishWr_nodeAddr (s : State) : (publishWr s).nodeAddr = s.nodeAddr := rfl
@[simp] theorem publishWr_seq (s : State) : (publishWr s).seq = s.seq := rfl
@[simp] theorem publishWr_fsm (s : State) : (publishWr s).fsm = s.fsm := rfl
@[simp] theorem publishWr_cur (s : State) : (publishWr s).cur = s.cur := rfl
@[simp] theorem publishWr_pend (s : State) : (publishWr s).pend = s.pend := rfl
@[simp] theorem publishWr_outcome (s : State) : (publishWr s).outcome = s.outcome := rfl
@[simp] theorem publishWr_ready (s : State) : (publishWr s).ready = s.ready := rfl
@[simp] theorem publishWr_halt (s : State) : (publishWr s).halt = s.halt := rfl
@[simp] theorem publishWr_hist (s : State) : (publishWr s).hist = s.hist := rfl
@[simp] theorem publishWr_sending (s : State) : (publishWr s).sending = s.sending := rfl
@[simp] theorem publishWr_resetCause (s : State) : (publishWr s).resetCause = s.resetCause := rfl
@[simp] theorem publishWr_pollReq (s : State) : (publishWr s).pollReq = s.pollReq := rfl
@[simp] theorem publishWr_subReq (s : State) : (publishWr s).subReq = s.subReq := rfl
@[simp] theorem publishWr_breqReq (s : State) : (publishWr s).breqReq = s.breqReq := rfl
@[simp] theorem publishWr_encId (s : State) : (publishWr s).encId = s.encId := rfl
@[simp] theorem publishWr_decOut (s : State) : (publishWr s).decOut = s.decOut := rfl
@[simp] theorem publishWr_cfg (s : State) : (publishWr s).cfg = s.cfg := rfl
@[simp] theorem publishWr_agenda (s : State) : (publishWr s).agenda = s.agenda := rfl
@[simp] theorem publishWr_draws (s : State) : (publishWr s).draws = s.draws := rfl

/-! ### `setPollReq` -/

@[simp] theorem setPollReq_rxMem (l : ReqLine Unit) (s : State) :
    (setPollReq l s).rxMem = s.rxMem := rfl
@[simp] theorem setPollReq_rxWr (l : ReqLine Unit) (s : State) :
    (setPollReq l s).rxWr = s.rxWr := rfl
@[simp] theorem setPollReq_rxRd (l : ReqLine Unit) (s : State) :
    (setPollReq l s).rxRd = s.rxRd := rfl
@[simp] theorem setPollReq_rxWrV (l : ReqLine Unit) (s : State) :
    (setPollReq l s).rxWrV = s.rxWrV := rfl
@[simp] theorem setPollReq_rxRdV (l : ReqLine Unit) (s : State) :
    (setPollReq l s).rxRdV = s.rxRdV := rfl
@[simp] theorem setPollReq_txMem (l : ReqLine Unit) (s : State) :
    (setPollReq l s).txMem = s.txMem := rfl
@[simp] theorem setPollReq_txWr (l : ReqLine Unit) (s : State) :
    (setPollReq l s).txWr = s.txWr := rfl
@[simp] theorem setPollReq_txRd (l : ReqLine Unit) (s : State) :
    (setPollReq l s).txRd = s.txRd := rfl
@[simp] theorem setPollReq_txInflight (l : ReqLine Unit) (s : State) :
    (setPollReq l s).txInflight = s.txInflight := rfl
@[simp] theorem setPollReq_txdonePending (l : ReqLine Unit) (s : State) :
    (setPollReq l s).txdonePending = s.txdonePending := rfl
@[simp] theorem setPollReq_nodeAddr (l : ReqLine Unit) (s : State) :
    (setPollReq l s).nodeAddr = s.nodeAddr := rfl
@[simp] theorem setPollReq_seq (l : ReqLine Unit) (s : State) : (setPollReq l s).seq = s.seq := rfl
@[simp] theorem setPollReq_fsm (l : ReqLine Unit) (s : State) : (setPollReq l s).fsm = s.fsm := rfl
@[simp] theorem setPollReq_cur (l : ReqLine Unit) (s : State) : (setPollReq l s).cur = s.cur := rfl
@[simp] theorem setPollReq_pend (l : ReqLine Unit) (s : State) :
    (setPollReq l s).pend = s.pend := rfl
@[simp] theorem setPollReq_outcome (l : ReqLine Unit) (s : State) :
    (setPollReq l s).outcome = s.outcome := rfl
@[simp] theorem setPollReq_ready (l : ReqLine Unit) (s : State) :
    (setPollReq l s).ready = s.ready := rfl
@[simp] theorem setPollReq_halt (l : ReqLine Unit) (s : State) :
    (setPollReq l s).halt = s.halt := rfl
@[simp] theorem setPollReq_hist (l : ReqLine Unit) (s : State) :
    (setPollReq l s).hist = s.hist := rfl
@[simp] theorem setPollReq_sending (l : ReqLine Unit) (s : State) :
    (setPollReq l s).sending = s.sending := rfl
@[simp] theorem setPollReq_resetCause (l : ReqLine Unit) (s : State) :
    (setPollReq l s).resetCause = s.resetCause := rfl
@[simp] theorem setPollReq_pollReq (l : ReqLine Unit) (s : State) :
    (setPollReq l s).pollReq = l := rfl
@[simp] theorem setPollReq_subReq (l : ReqLine Unit) (s : State) :
    (setPollReq l s).subReq = s.subReq := rfl
@[simp] theorem setPollReq_breqReq (l : ReqLine Unit) (s : State) :
    (setPollReq l s).breqReq = s.breqReq := rfl
@[simp] theorem setPollReq_encId (l : ReqLine Unit) (s : State) :
    (setPollReq l s).encId = s.encId := rfl
@[simp] theorem setPollReq_decOut (l : ReqLine Unit) (s : State) :
    (setPollReq l s).decOut = s.decOut := rfl
@[simp] theorem setPollReq_cfg (l : ReqLine Unit) (s : State) : (setPollReq l s).cfg = s.cfg := rfl
@[simp] theorem setPollReq_agenda (l : ReqLine Unit) (s : State) :
    (setPollReq l s).agenda = s.agenda := rfl
@[simp] theorem setPollReq_draws (l : ReqLine Unit) (s : State) :
    (setPollReq l s).draws = s.draws := rfl

/-! ### `setSubReq` -/

@[simp] theorem setSubReq_rxMem (l : ReqLine WFrame) (s : State) :
    (setSubReq l s).rxMem = s.rxMem := rfl
@[simp] theorem setSubReq_rxWr (l : ReqLine WFrame) (s : State) :
    (setSubReq l s).rxWr = s.rxWr := rfl
@[simp] theorem setSubReq_rxRd (l : ReqLine WFrame) (s : State) :
    (setSubReq l s).rxRd = s.rxRd := rfl
@[simp] theorem setSubReq_rxWrV (l : ReqLine WFrame) (s : State) :
    (setSubReq l s).rxWrV = s.rxWrV := rfl
@[simp] theorem setSubReq_rxRdV (l : ReqLine WFrame) (s : State) :
    (setSubReq l s).rxRdV = s.rxRdV := rfl
@[simp] theorem setSubReq_txMem (l : ReqLine WFrame) (s : State) :
    (setSubReq l s).txMem = s.txMem := rfl
@[simp] theorem setSubReq_txWr (l : ReqLine WFrame) (s : State) :
    (setSubReq l s).txWr = s.txWr := rfl
@[simp] theorem setSubReq_txRd (l : ReqLine WFrame) (s : State) :
    (setSubReq l s).txRd = s.txRd := rfl
@[simp] theorem setSubReq_txInflight (l : ReqLine WFrame) (s : State) :
    (setSubReq l s).txInflight = s.txInflight := rfl
@[simp] theorem setSubReq_txdonePending (l : ReqLine WFrame) (s : State) :
    (setSubReq l s).txdonePending = s.txdonePending := rfl
@[simp] theorem setSubReq_nodeAddr (l : ReqLine WFrame) (s : State) :
    (setSubReq l s).nodeAddr = s.nodeAddr := rfl
@[simp] theorem setSubReq_seq (l : ReqLine WFrame) (s : State) : (setSubReq l s).seq = s.seq := rfl
@[simp] theorem setSubReq_fsm (l : ReqLine WFrame) (s : State) : (setSubReq l s).fsm = s.fsm := rfl
@[simp] theorem setSubReq_cur (l : ReqLine WFrame) (s : State) : (setSubReq l s).cur = s.cur := rfl
@[simp] theorem setSubReq_pend (l : ReqLine WFrame) (s : State) :
    (setSubReq l s).pend = s.pend := rfl
@[simp] theorem setSubReq_outcome (l : ReqLine WFrame) (s : State) :
    (setSubReq l s).outcome = s.outcome := rfl
@[simp] theorem setSubReq_ready (l : ReqLine WFrame) (s : State) :
    (setSubReq l s).ready = s.ready := rfl
@[simp] theorem setSubReq_halt (l : ReqLine WFrame) (s : State) :
    (setSubReq l s).halt = s.halt := rfl
@[simp] theorem setSubReq_hist (l : ReqLine WFrame) (s : State) :
    (setSubReq l s).hist = s.hist := rfl
@[simp] theorem setSubReq_sending (l : ReqLine WFrame) (s : State) :
    (setSubReq l s).sending = s.sending := rfl
@[simp] theorem setSubReq_resetCause (l : ReqLine WFrame) (s : State) :
    (setSubReq l s).resetCause = s.resetCause := rfl
@[simp] theorem setSubReq_pollReq (l : ReqLine WFrame) (s : State) :
    (setSubReq l s).pollReq = s.pollReq := rfl
@[simp] theorem setSubReq_subReq (l : ReqLine WFrame) (s : State) :
    (setSubReq l s).subReq = l := rfl
@[simp] theorem setSubReq_breqReq (l : ReqLine WFrame) (s : State) :
    (setSubReq l s).breqReq = s.breqReq := rfl
@[simp] theorem setSubReq_encId (l : ReqLine WFrame) (s : State) :
    (setSubReq l s).encId = s.encId := rfl
@[simp] theorem setSubReq_decOut (l : ReqLine WFrame) (s : State) :
    (setSubReq l s).decOut = s.decOut := rfl
@[simp] theorem setSubReq_cfg (l : ReqLine WFrame) (s : State) : (setSubReq l s).cfg = s.cfg := rfl
@[simp] theorem setSubReq_agenda (l : ReqLine WFrame) (s : State) :
    (setSubReq l s).agenda = s.agenda := rfl
@[simp] theorem setSubReq_draws (l : ReqLine WFrame) (s : State) :
    (setSubReq l s).draws = s.draws := rfl

/-! ### `setBreqReq` -/

@[simp] theorem setBreqReq_rxMem (l : ReqLine BreqArgs) (s : State) :
    (setBreqReq l s).rxMem = s.rxMem := rfl
@[simp] theorem setBreqReq_rxWr (l : ReqLine BreqArgs) (s : State) :
    (setBreqReq l s).rxWr = s.rxWr := rfl
@[simp] theorem setBreqReq_rxRd (l : ReqLine BreqArgs) (s : State) :
    (setBreqReq l s).rxRd = s.rxRd := rfl
@[simp] theorem setBreqReq_rxWrV (l : ReqLine BreqArgs) (s : State) :
    (setBreqReq l s).rxWrV = s.rxWrV := rfl
@[simp] theorem setBreqReq_rxRdV (l : ReqLine BreqArgs) (s : State) :
    (setBreqReq l s).rxRdV = s.rxRdV := rfl
@[simp] theorem setBreqReq_txMem (l : ReqLine BreqArgs) (s : State) :
    (setBreqReq l s).txMem = s.txMem := rfl
@[simp] theorem setBreqReq_txWr (l : ReqLine BreqArgs) (s : State) :
    (setBreqReq l s).txWr = s.txWr := rfl
@[simp] theorem setBreqReq_txRd (l : ReqLine BreqArgs) (s : State) :
    (setBreqReq l s).txRd = s.txRd := rfl
@[simp] theorem setBreqReq_txInflight (l : ReqLine BreqArgs) (s : State) :
    (setBreqReq l s).txInflight = s.txInflight := rfl
@[simp] theorem setBreqReq_txdonePending (l : ReqLine BreqArgs) (s : State) :
    (setBreqReq l s).txdonePending = s.txdonePending := rfl
@[simp] theorem setBreqReq_nodeAddr (l : ReqLine BreqArgs) (s : State) :
    (setBreqReq l s).nodeAddr = s.nodeAddr := rfl
@[simp] theorem setBreqReq_seq (l : ReqLine BreqArgs) (s : State) :
    (setBreqReq l s).seq = s.seq := rfl
@[simp] theorem setBreqReq_fsm (l : ReqLine BreqArgs) (s : State) :
    (setBreqReq l s).fsm = s.fsm := rfl
@[simp] theorem setBreqReq_cur (l : ReqLine BreqArgs) (s : State) :
    (setBreqReq l s).cur = s.cur := rfl
@[simp] theorem setBreqReq_pend (l : ReqLine BreqArgs) (s : State) :
    (setBreqReq l s).pend = s.pend := rfl
@[simp] theorem setBreqReq_outcome (l : ReqLine BreqArgs) (s : State) :
    (setBreqReq l s).outcome = s.outcome := rfl
@[simp] theorem setBreqReq_ready (l : ReqLine BreqArgs) (s : State) :
    (setBreqReq l s).ready = s.ready := rfl
@[simp] theorem setBreqReq_halt (l : ReqLine BreqArgs) (s : State) :
    (setBreqReq l s).halt = s.halt := rfl
@[simp] theorem setBreqReq_hist (l : ReqLine BreqArgs) (s : State) :
    (setBreqReq l s).hist = s.hist := rfl
@[simp] theorem setBreqReq_sending (l : ReqLine BreqArgs) (s : State) :
    (setBreqReq l s).sending = s.sending := rfl
@[simp] theorem setBreqReq_resetCause (l : ReqLine BreqArgs) (s : State) :
    (setBreqReq l s).resetCause = s.resetCause := rfl
@[simp] theorem setBreqReq_pollReq (l : ReqLine BreqArgs) (s : State) :
    (setBreqReq l s).pollReq = s.pollReq := rfl
@[simp] theorem setBreqReq_subReq (l : ReqLine BreqArgs) (s : State) :
    (setBreqReq l s).subReq = s.subReq := rfl
@[simp] theorem setBreqReq_breqReq (l : ReqLine BreqArgs) (s : State) :
    (setBreqReq l s).breqReq = l := rfl
@[simp] theorem setBreqReq_encId (l : ReqLine BreqArgs) (s : State) :
    (setBreqReq l s).encId = s.encId := rfl
@[simp] theorem setBreqReq_decOut (l : ReqLine BreqArgs) (s : State) :
    (setBreqReq l s).decOut = s.decOut := rfl
@[simp] theorem setBreqReq_cfg (l : ReqLine BreqArgs) (s : State) :
    (setBreqReq l s).cfg = s.cfg := rfl
@[simp] theorem setBreqReq_agenda (l : ReqLine BreqArgs) (s : State) :
    (setBreqReq l s).agenda = s.agenda := rfl
@[simp] theorem setBreqReq_draws (l : ReqLine BreqArgs) (s : State) :
    (setBreqReq l s).draws = s.draws := rfl

/-! ### `publishRd` -/

@[simp] theorem publishRd_rxMem (s : State) : (publishRd s).rxMem = s.rxMem := rfl
@[simp] theorem publishRd_rxWr (s : State) : (publishRd s).rxWr = s.rxWr := rfl
@[simp] theorem publishRd_rxRd (s : State) : (publishRd s).rxRd = s.rxRd := rfl
@[simp] theorem publishRd_rxWrV (s : State) : (publishRd s).rxWrV = s.rxWrV := rfl
@[simp] theorem publishRd_rxRdV (s : State) :
    (publishRd s).rxRdV = if s.cfg.cdcView = .exact then s.rxRd else s.rxRdV := rfl
@[simp] theorem publishRd_txMem (s : State) : (publishRd s).txMem = s.txMem := rfl
@[simp] theorem publishRd_txWr (s : State) : (publishRd s).txWr = s.txWr := rfl
@[simp] theorem publishRd_txRd (s : State) : (publishRd s).txRd = s.txRd := rfl
@[simp] theorem publishRd_txInflight (s : State) : (publishRd s).txInflight = s.txInflight := rfl
@[simp] theorem publishRd_txdonePending (s : State) :
    (publishRd s).txdonePending = s.txdonePending := rfl
@[simp] theorem publishRd_nodeAddr (s : State) : (publishRd s).nodeAddr = s.nodeAddr := rfl
@[simp] theorem publishRd_seq (s : State) : (publishRd s).seq = s.seq := rfl
@[simp] theorem publishRd_fsm (s : State) : (publishRd s).fsm = s.fsm := rfl
@[simp] theorem publishRd_cur (s : State) : (publishRd s).cur = s.cur := rfl
@[simp] theorem publishRd_pend (s : State) : (publishRd s).pend = s.pend := rfl
@[simp] theorem publishRd_outcome (s : State) : (publishRd s).outcome = s.outcome := rfl
@[simp] theorem publishRd_ready (s : State) : (publishRd s).ready = s.ready := rfl
@[simp] theorem publishRd_halt (s : State) : (publishRd s).halt = s.halt := rfl
@[simp] theorem publishRd_hist (s : State) : (publishRd s).hist = s.hist := rfl
@[simp] theorem publishRd_sending (s : State) : (publishRd s).sending = s.sending := rfl
@[simp] theorem publishRd_resetCause (s : State) : (publishRd s).resetCause = s.resetCause := rfl
@[simp] theorem publishRd_pollReq (s : State) : (publishRd s).pollReq = s.pollReq := rfl
@[simp] theorem publishRd_subReq (s : State) : (publishRd s).subReq = s.subReq := rfl
@[simp] theorem publishRd_breqReq (s : State) : (publishRd s).breqReq = s.breqReq := rfl
@[simp] theorem publishRd_encId (s : State) : (publishRd s).encId = s.encId := rfl
@[simp] theorem publishRd_decOut (s : State) : (publishRd s).decOut = s.decOut := rfl
@[simp] theorem publishRd_cfg (s : State) : (publishRd s).cfg = s.cfg := rfl
@[simp] theorem publishRd_agenda (s : State) : (publishRd s).agenda = s.agenda := rfl
@[simp] theorem publishRd_draws (s : State) : (publishRd s).draws = s.draws := rfl

end Sys2Proof.Machine
end

