-- ==== Sys2Proof/Tests/Slice0.lean ====
section
/-! SUPPORT. Tests on single steps and small states. Expected values are those of spec/95_test_vectors.md (the vector is
named before each test) or are worked by hand from the rule named; the last section gives, for each statement that has
hypotheses, a concrete state and operands that meet them. -/

namespace Sys2Proof.Tests

open Sys2Proof Sys2Proof.Machine Sys2Proof.Safety

/-! ### Small states -/

/-- The example configuration after `INIT 0x020` (95 section 0). -/
def base : State :=
  { State.reset with cfg := Config.example95, nodeAddr := 0x020, ready := true, resetCause := 0x01 }

/-- `base` with a frame in dispatch. -/
def dispatchOf (id : WireId) (dlc : BitVec 4) (data : List Byte) : State :=
  { base with fsm := .dispatch, pollReq := .taken (), cur := { id := id, dlc := dlc, data := packData data } }

/-- `base` with a frame in flight. -/
def busy : State :=
  { base with txInflight := true, sending := some { id := 0x1883FE20, dlc := 0, data := 0 } }

/-- `Fk` of 95 section 2.4. -/
def fk (k : Nat) : WFrame := { id := encodeId 1 0x11 k 0x1FF 0x020, dlc := 0, data := 0 }

/-- `busy` with F1 to F7 queued (V-T3). -/
def txFull : State :=
  { busy with txWr := 7, txMem := (List.range 7).map (fun k => (k, pack (fk (k + 1)))) }

/-- `busy` with F1 queued and the completion of F0 pending (V-T8). -/
def donePending : State :=
  { busy with sending := none, txdonePending := true, txWr := 1, txMem := [(0, pack (fk 1))] }

/-- GET10(k) of 95 section 2.3. -/
def get10 (k : Nat) : WFrame :=
  { id := encodeId 1 0x09 k 0x020 0x040, dlc := 1, data := packData [BitVec.ofNat 8 (k + 0x0A)] }

/-- `base` with GET10(0) received and the write cursor synchronised. -/
def rxOne : State := { base with rxWr := 1, rxWrV := 1, rxMem := [(0, pack (get10 0))] }

/-- `base` with GET10(0) to GET10(14) received and synchronised (V-F2, V-F3). -/
def rxFull : State :=
  { base with
    rxWr := 15, rxWrV := 15, rxMem := (List.range 15).map (fun k => (k, pack (get10 k))) }

/-- `base` with the response of V-G2 pending. -/
def responding : State :=
  { base with
    fsm := .respond, outcome := .handled, pollReq := .taken ()
    pend := some { id := 0x188C8020, dlc := 2, data := packData [0x01, 0x03] } }

/-- A terminal state (V-D5). -/
def stopped : State :=
  { base with fsm := .terminal, halt := .resetTriggered, hist := [.resetTrigger] }

/-- The outcome is a next state of which `p` holds. -/
def got (o : Result) (p : State → Bool) : Bool :=
  match o with
  | .next t => p t
  | .fault _ => false
  | .refused _ => false

/-- The outcome is this fault. -/
def stops (o : Result) (r : Fault) : Bool :=
  match o with
  | .next _ => false
  | .fault q => q == r
  | .refused _ => false

/-- The SYS turn in DISPATCH leaves this response pending, in the RESPOND state. -/
def answers (s : State) (id : WireId) (dlc : BitVec 4) (data : List Byte) : Bool :=
  got (sysStep s) (fun t =>
    t.pend == some { id := id, dlc := dlc, data := packData data } && t.fsm == .respond &&
    t.outcome == .handled && t.hist == [])

/-- The SYS turn in DISPATCH ends the poll with this acknowledge. -/
def acks (s : State) (r : PollResult) (w : WFrame) : Bool :=
  got (sysStep s) (fun t => t.hist == [.pollAck r .none w] && t.fsm == .idle && t.pend == none)

/-! ### Decoding: words written out from the field layout of R61 and the codes of R70 (95 section 2.5) -/

/-- V-X1. -/
theorem test_decode_rejectSrcBcast :
    decodeFrame Config.example95 0x020 { id := 0x1783FFFF, dlc := 0, data := 0 } =
      .rejectSrcBcast { prio := 1, typ := 0x0F, seq := 0, dst := 0x1FF, src := 0x1FF, dlc := 0, data := 0 } := by
  decide

/-- V-D1: 1 01111 00000 111111111 001000000. -/
theorem test_decode_discover :
    decodeFrame Config.example95 0x020
        { id := 0b10111100000111111111001000000, dlc := 0, data := 0 } =
      .discover { prio := 1, typ := 0x0F, seq := 0, dst := 0x1FF, src := 0x040, dlc := 0, data := 0 } := by
  decide

/-- V-D5: 1 01110 00101 000100000 001000000. -/
theorem test_decode_nodeReset :
    decodeFrame Config.example95 0x020
        { id := 0b10111000101000100000001000000, dlc := 0, data := 0 } =
      .nodeReset { prio := 1, typ := 0x0E, seq := 5, dst := 0x020, src := 0x040, dlc := 0, data := 0 } := by
  decide

/-- V-D6. -/
theorem test_decode_bcastInvalid :
    decodeFrame Config.example95 0x020 { id := 0x171BFE40, dlc := 2, data := 0x0201 } =
      .bcastInvalid
        { prio := 1, typ := 0x0E, seq := 6, dst := 0x1FF, src := 0x040, dlc := 2, data := 0x0201 } := by
  decide

/-- V-S10. -/
theorem test_decode_setReg :
    decodeFrame Config.example95 0x020 { id := 0x14044040, dlc := 2, data := 0x050A } =
      .setReg { prio := 1, typ := 0x08, seq := 1, dst := 0x020, src := 0x040, dlc := 2, data := 0x050A } := by
  decide

/-- V-S1: 1 01000 00100 000100000 001000000. -/
theorem test_decode_setRegNodeId :
    decodeFrame Config.example95 0x020
        { id := 0b10100000100000100000001000000, dlc := 3, data := 0xFE0109 } =
      .setRegNodeId
        { prio := 1, typ := 0x08, seq := 4, dst := 0x020, src := 0x040, dlc := 3, data := 0xFE0109 } := by
  decide

/-- V-S8. -/
theorem test_decode_setRegReadOnly :
    decodeFrame Config.example95 0x020 { id := 0x14044040, dlc := 8, data := 0x0706050403020106 } =
      .setRegReadOnly { prio := 1, typ := 0x08, seq := 1, dst := 0x020, src := 0x040, dlc := 8
                        data := 0x0706050403020106 } := by
  decide

/-- V-S9. -/
theorem test_decode_setRegUnassigned :
    decodeFrame Config.example95 0x020 { id := 0x14044040, dlc := 2, data := 0x0007 } =
      .setRegUnassigned
        { prio := 1, typ := 0x08, seq := 1, dst := 0x020, src := 0x040, dlc := 2, data := 0x0007 } := by
  decide

/-- V-G12. -/
theorem test_decode_getReg :
    decodeFrame Config.example95 0x020 { id := 0x148C4040, dlc := 1, data := 0xFF } =
      .getReg { prio := 1, typ := 0x09, seq := 3, dst := 0x020, src := 0x040, dlc := 1, data := 0xFF } := by
  decide

/-- V-G10: 1 01001 00011 000100000 001000000. -/
theorem test_decode_getRegStandard :
    decodeFrame Config.example95 0x020
        { id := 0b10100100011000100000001000000, dlc := 1, data := 0x09 } =
      .getRegStandard
        { prio := 1, typ := 0x09, seq := 3, dst := 0x020, src := 0x040, dlc := 1, data := 0x09 } := by
  decide

/-- V-G9. -/
theorem test_decode_getRegUnassigned :
    decodeFrame Config.example95 0x020 { id := 0x14984040, dlc := 1, data := 0x08 } =
      .getRegUnassigned
        { prio := 1, typ := 0x09, seq := 6, dst := 0x020, src := 0x040, dlc := 1, data := 0x08 } := by
  decide

/-- V-U1. -/
theorem test_decode_nodeUpgrade :
    decodeFrame Config.example95 0x020 { id := 0x16A44040, dlc := 0, data := 0 } =
      .nodeUpgrade { prio := 1, typ := 0x0D, seq := 9, dst := 0x020, src := 0x040, dlc := 0, data := 0 } := by
  decide

/-- V-B1. -/
theorem test_decode_setBit :
    decodeFrame Config.example95 0x020 { id := 0x15084040, dlc := 2, data := 0x030C } =
      .setBit { prio := 1, typ := 0x0A, seq := 2, dst := 0x020, src := 0x040, dlc := 2, data := 0x030C } := by
  decide

/-- V-B2. -/
theorem test_decode_clearBit :
    decodeFrame Config.example95 0x020 { id := 0x15884040, dlc := 2, data := 0x030C } =
      .clearBit { prio := 1, typ := 0x0B, seq := 2, dst := 0x020, src := 0x040, dlc := 2, data := 0x030C } := by
  decide

/-- V-B3. -/
theorem test_decode_toggleBit :
    decodeFrame Config.example95 0x020 { id := 0x16084040, dlc := 2, data := 0x030C } =
      .toggleBit { prio := 1, typ := 0x0C, seq := 2, dst := 0x020, src := 0x040, dlc := 2, data := 0x030C } := by
  decide

/-- V-B4. -/
theorem test_decode_nodeInvalid :
    decodeFrame Config.example95 0x020 { id := 0x16084040, dlc := 3, data := 0x00030C } =
      .nodeInvalid
        { prio := 1, typ := 0x0C, seq := 2, dst := 0x020, src := 0x040, dlc := 3, data := 0x00030C } := by
  decide

/-- V-R2: 1 10010 00011 000110000 001000000. -/
theorem test_decode_remotePassThrough :
    decodeFrame Config.example95 0x020
        { id := 0b11001000011000110000001000000, dlc := 1, data := 0x01 } =
      .remotePassThrough
        { prio := 1, typ := 0x12, seq := 3, dst := 0x030, src := 0x040, dlc := 1, data := 0x01 } := by
  decide

/-- V-N1: 0 11111 00001 000100000 001000000. -/
theorem test_decode_noMatch :
    decodeFrame Config.example95 0x020
        { id := 0b01111100001000100000001000000, dlc := 0, data := 0 } =
      .noMatch { prio := 0, typ := 0x1F, seq := 1, dst := 0x020, src := 0x040, dlc := 0, data := 0 } := by
  decide

/-- V-G10's bytes as stored: sub-bytes 14 8C 40 40 (V-C11), dlc, data. -/
theorem test_decode_bytes :
    decodeBytes Config.example95 0x020 [0x14, 0x8C, 0x40, 0x40, 1, 0x09, 0, 0, 0, 0, 0, 0, 0] =
      .ok (.getRegStandard
        { prio := 1, typ := 0x09, seq := 3, dst := 0x020, src := 0x040, dlc := 1, data := 0x09 }) := by
  decide

/-- R66: bits 7:5 of sub-byte 0 are ignored. -/
theorem test_decode_top_bits_ignored :
    decodeBytes Config.example95 0x020 [0xF4, 0x8C, 0x40, 0x40, 1, 0x09, 0, 0, 0, 0, 0, 0, 0] =
    decodeBytes Config.example95 0x020 [0x14, 0x8C, 0x40, 0x40, 1, 0x09, 0, 0, 0, 0, 0, 0, 0] := by
  decide

/-- The decoder refuses what is no stored frame, by name. -/
theorem test_decode_refuses :
    decodeBytes Config.example95 0x020 [0x14, 0x8C] = .error .truncated ∧
    decodeBytes Config.example95 0x020 [0, 0, 0, 0, 0, 0, 0, 0, 0, 0, 0, 0, 0, 0] = .error .trailing ∧
    decodeBytes Config.example95 0x020 [0, 0, 0, 0, 16, 0, 0, 0, 0, 0, 0, 0, 0] = .error .dlcRange := by
  decide

/-- Table words (match values of spec/opcode_table.json) at reset: self is 0, the codes are R70's. -/
theorem test_decode_table_words :
    decodeTableWord 32 0x7800000 =
      some (.discover { prio := 0, typ := 0x0F, seq := 0, dst := 0, src := 0, dlc := 0, data := 0 }) ∧
    decodeTableWord 32 0x000001FF =
      some (.rejectSrcBcast { prio := 0, typ := 0, seq := 0, dst := 0, src := 0x1FF, dlc := 0, data := 0 }) ∧
    decodeTableWord 32 0x6800000 =
      some (.nodeUpgrade { prio := 0, typ := 0x0D, seq := 0, dst := 0, src := 0, dlc := 0, data := 0 }) := by
  decide

/-- A table word placed at reset is what the next step runs: NODE_RESET triggers (R135). -/
theorem test_fetch_word_runs :
    got (step (State.reset.withFetchWord 32 0x7000000)) (fun t => t.halt == .resetTriggered) = true := by
  rfl

/-- The block operations have no encoding in bits; the notation's lines stand for them (R83, R84). -/
theorem test_lines :
    lineMoves Config.example95 (.init (some 0x020)) = [.op (.init (some 0x020))] ∧
    lineMoves Config.example95 (.rx (.byFields 1 (.name .getReg) 0 0x020 0x040 1 [0x0A])) =
      [.op (.rx { id := 0x14804040, dlc := 1, data := 0x0A })] ∧
    lineMoves Config.example95 .poll = [.op .poll, .sys, .sys] ∧
    lineMoves Config.example95 (.submit (.raw 0x148081FE 1 [0x09])) =
      [.op (.submit { id := 0x148081FE, dlc := 1, data := 0x09 })] ∧
    lineMoves Config.example95 (.breq (.name .discover) 0x1FF) = [.op (.breq 0x0F 0x1FF)] ∧
    lineMoves Config.example95 .txdone = [.op .txdoneC, .op .txdoneH] ∧
    lineMoves Config.example95 .sync = [.op .syncW, .op .syncR] := by
  decide

/-- The tokens of `BREQ GET_REG, 0x020`, and a byte list that is too long. -/
theorem test_parse :
    parseLine [.word .breq, .typeName .getReg, .num 0x020] = some (.breq (.name .getReg) 0x020) ∧
    parseLine [.word .init, .num 0x200] = none ∧
    parseLine [.word .submit, .openFrame, .word .id, .num 0x14, .word .dlc, .num 1, .closeFrame] =
      some (.submit (.raw 0x14 1 [])) ∧
    parseLine [.word .req, .typeName .getReg, .num 0x020, .num 1,
      .bytes [0, 0, 0, 0, 0, 0, 0, 0, 0]] = none := by
  decide

/-! ### Well-formedness: an ill-formed term for each check -/

theorem test_wf_example : Config.example95.wf = true := by decide

/-- R70: two types share a code. -/
theorem test_wf_cfg_codes :
    { Config.example95 with typeCode := { Config.defaultTypeCodes with nodeInfo := 0x12 } }.wf = false := by
  decide

/-- R73: one code in two groups, for each pair of groups. -/
theorem test_wf_cfg_disjoint :
    { Config.example95 with groupNode := 0x0E :: Config.defaultGroupNode }.wf = false ∧
    { Config.example95 with groupRemote := 0x0F :: Config.defaultGroupRemote }.wf = false ∧
    { Config.example95 with groupRemote := 0x08 :: Config.defaultGroupRemote }.wf = false := by
  decide

/-- R73: a named request outside its group. -/
theorem test_wf_cfg_requests :
    { Config.example95 with groupBcast := [0x0E] }.wf = false ∧
    { Config.example95 with groupNode := [0x08, 0x09, 0x0A, 0x0B, 0x0D] }.wf = false := by
  decide

/-- R73: a response type in a request group. -/
theorem test_wf_cfg_responses :
    { Config.example95 with groupBcast := [0x0E, 0x0F, 0x11], groupRemote := [0x10] }.wf = false ∧
    { Config.example95 with
      groupNode := 0x13 :: Config.defaultGroupNode, groupRemote := [0x10] }.wf = false := by
  decide

/-- R77: two errors share a code. -/
theorem test_wf_cfg_errs :
    { Config.example95 with errCode := { Config.defaultErrCodes with invalidMsg := 0x05 } }.wf = false := by
  decide

/-- R74: too few slots, a first slot that is not NODE_TYPE, a last one that is not NODE_ID. -/
theorem test_wf_cfg_regMap :
    { Config.example95 with regMap := Config.defaultRegMap.drop 1 }.wf = false ∧
    { Config.example95 with regMap := RegKind.mcuId :: Config.defaultRegMap.drop 1 }.wf = false ∧
    { Config.example95 with regMap := Config.defaultRegMap.take 9 ++ [RegKind.mcuId] }.wf = false := by
  decide

/-- A frame to self from 0x040, for the checks below. -/
def frame (typ : TypeCode) (dlc : BitVec 4) (data : BitVec 64) : Frame :=
  { prio := 1, typ := typ, seq := 0, dst := 0x020, src := 0x040, dlc := dlc, data := data }

/-- Well-formed at self 0x020 under the example configuration. -/
def ok (i : Instr) : Bool := i.wf Config.example95 0x020

/-- R63, R132: the length range and the source check. -/
theorem test_wf_source :
    ok (.rejectSrcBcast { frame 0 8 0 with src := 0x1FF }) = true ∧
    ok (.rejectSrcBcast { frame 0 9 0 with src := 0x1FF }) = false ∧
    ok (.rejectSrcBcast (frame 0 0 0)) = false ∧
    ok (.noMatch { frame 0 0 0 with src := 0x1FF }) = false := by
  decide

/-- R133 rule 1, R134 to R136: destination, type and length. -/
theorem test_wf_rule1 :
    ok (.discover (frame 0x0F 0 0)) = true ∧ ok (.discover { frame 0x0F 0 0 with dst := 0x030 }) = false ∧
    ok (.discover (frame 0x0E 0 0)) = false ∧ ok (.discover (frame 0x0F 1 0)) = false ∧
    ok (.nodeReset (frame 0x0E 0 0)) = true ∧ ok (.nodeReset (frame 0x0F 0 0)) = false ∧
    ok (.nodeReset (frame 0x0E 2 0)) = false ∧
    ok (.bcastInvalid (frame 0x0F 1 0)) = true ∧ ok (.bcastInvalid (frame 0x0F 0 0)) = false ∧
    ok (.bcastInvalid (frame 0x0E 0 0)) = false ∧ ok (.bcastInvalid (frame 0x08 0 0)) = false := by
  decide

/-- R133 rule 2, R137 to R140: length, index and register kind. -/
theorem test_wf_setReg :
    ok (.setReg (frame 0x08 2 0x0A)) = true ∧ ok (.setReg (frame 0x08 2 0x09)) = false ∧
    ok (.setReg (frame 0x08 1 0x0A)) = false ∧ ok (.setReg (frame 0x09 2 0x0A)) = false ∧
    ok (.setRegNodeId (frame 0x08 3 0x09)) = true ∧ ok (.setRegNodeId (frame 0x08 3 0x00)) = false ∧
    ok (.setRegReadOnly (frame 0x08 2 0x00)) = true ∧ ok (.setRegReadOnly (frame 0x08 2 0x09)) = false ∧
    ok (.setRegReadOnly (frame 0x08 2 0x07)) = false ∧
    ok (.setRegUnassigned (frame 0x08 2 0x07)) = true ∧
    ok (.setRegUnassigned (frame 0x08 2 0x0A)) = false ∧
    ok (.setRegUnassigned { frame 0x08 2 0x07 with dst := 0x1FF }) = false := by
  decide

/-- R141 to R143. -/
theorem test_wf_getReg :
    ok (.getReg (frame 0x09 1 0xFF)) = true ∧ ok (.getReg (frame 0x09 1 0x09)) = false ∧
    ok (.getReg (frame 0x09 2 0xFF)) = false ∧
    ok (.getRegStandard (frame 0x09 1 0x09)) = true ∧ ok (.getRegStandard (frame 0x09 1 0x08)) = false ∧
    ok (.getRegStandard (frame 0x09 1 0x0A)) = false ∧
    ok (.getRegUnassigned (frame 0x09 1 0x08)) = true ∧ ok (.getRegUnassigned (frame 0x09 1 0x06)) = false := by
  decide

/-- R144 to R148. -/
theorem test_wf_others :
    ok (.nodeUpgrade (frame 0x0D 0 0)) = true ∧ ok (.nodeUpgrade (frame 0x0D 1 0)) = false ∧
    ok (.setBit (frame 0x0A 2 0)) = true ∧ ok (.setBit (frame 0x0B 2 0)) = false ∧
    ok (.clearBit (frame 0x0B 2 0)) = true ∧ ok (.clearBit (frame 0x0B 3 0)) = false ∧
    ok (.toggleBit (frame 0x0C 2 0)) = true ∧ ok (.toggleBit (frame 0x0A 2 0)) = false ∧
    ok (.nodeInvalid (frame 0x0C 3 0)) = true ∧ ok (.nodeInvalid (frame 0x0C 2 0)) = false ∧
    ok (.nodeInvalid (frame 0x0A 2 0)) = false ∧ ok (.nodeInvalid (frame 0x0B 2 0)) = false ∧
    ok (.nodeInvalid (frame 0x0D 0 0)) = false ∧ ok (.nodeInvalid (frame 0x08 2 0)) = false ∧
    ok (.nodeInvalid (frame 0x09 1 0)) = false ∧ ok (.nodeInvalid (frame 0x12 1 0)) = false ∧
    ok (.remotePassThrough (frame 0x12 1 0)) = true ∧ ok (.remotePassThrough (frame 0x08 1 0)) = false ∧
    ok (.noMatch (frame 0x1F 0 0)) = true ∧ ok (.noMatch (frame 0x12 0 0)) = false ∧
    ok (.noMatch (frame 0x08 0 0)) = false ∧ ok (.noMatch (frame 0x0E 0 0)) = false := by
  decide

/-- A data list of nine bytes is no line of the notation. -/
theorem test_wf_line : (Line.rx (.raw 0 8 [0, 0, 0, 0, 0, 0, 0, 0, 0])).wf = false := by decide

/-! ### Codec (95 section 2.1, 2.2) -/

/-- V-C12, V-C13, V-C14. -/
theorem test_encode :
    got (exec (.encode 0 0x10 0x1E 0x155 0x0AA) base) (fun t => t.encId == 0x087AAAAA) = true ∧
    got (exec (.encode 3 0x3F 0x25 0x3FF 0x201) base) (fun t => t.encId == 0x1F97FE01) = true ∧
    got (exec (.encode 0x1FF 0x20 0x20 0x200 0x200) base) (fun t => t.encId == 0x10000000) = true := by
  decide

/-- V-C12, V-C13. -/
theorem test_decode :
    got (exec (.decode 0x087AAAAA) base) (fun t =>
      t.decOut == { prio := 0, typ := 0x10, seq := 0x1E, dst := 0x155, src := 0x0AA }) = true ∧
    got (exec (.decode 0x1F97FE01) base) (fun t =>
      t.decOut == { prio := 1, typ := 0x1F, seq := 0x05, dst := 0x1FF, src := 0x001 }) = true := by
  decide

/-- V-C12: the sub-bytes of R66. -/
theorem test_sub_bytes :
    [idb0 0x087AAAAA, idb1 0x087AAAAA, idb2 0x087AAAAA, idb3 0x087AAAAA] = [0x08, 0x7A, 0xAA, 0xAA] := by
  decide

/-- V-Q1. -/
theorem test_breq :
    got (exec (.breq 0x09 0x020) { base with seq := 3, nodeAddr := 0x040 })
      (fun t => t.hist == [.breqAck 0x148C4040] && t.seq == 4 && t.sending == none) = true := by
  decide

/-- V-Q2: the counter wraps. -/
theorem test_breq_wraps :
    got (exec (.breq 0x09 0x020) { base with seq := 31, nodeAddr := 0x040 })
      (fun t => t.hist == [.breqAck 0x14FC4040] && t.seq == 0) = true := by
  decide

/-! ### FIFOs (95 sections 2.3, 2.4) -/

/-- V-F7: the dlc is clamped. -/
theorem test_rx_clamps :
    got (exec (.rx { id := 0x148C4040, dlc := 12, data := 0xAAAAAAAAAAAAAA09 }) base) (fun t =>
      t.rxWr == 1 && t.rxWrV == 0 &&
      t.rxMem == [(0, pack { id := 0x148C4040, dlc := 8, data := 0xAAAAAAAAAAAAAA09 })]) = true := by
  decide

/-- V-F2: the sixteenth frame is dropped. -/
theorem test_rx_drops :
    got (exec (.rx (get10 15)) rxFull) (fun t => t.rxWr == 15 && t.rxMem == rxFull.rxMem) = true := by
  decide

/-- V-F1: the view lags. -/
theorem test_poll_view_lags :
    got (exec .poll { rxOne with rxWrV := 0 }) (fun t =>
      t.hist == [.pollAck .nothingPending .none zeroFrame] && t.rxRd == 0) = true := by
  decide

/-- V-F3: the oldest entry goes into dispatch. -/
theorem test_poll_fetches :
    got (exec .poll rxFull) (fun t =>
      t.cur == get10 0 && t.fsm == .dispatch && t.rxRd == 1 && t.rxRdV == 0) = true := by
  decide

/-- V-F3. -/
theorem test_syncW : got (exec .syncW { rxOne with rxWrV := 0 }) (fun t => t == rxOne) = true := by decide

/-- V-F5. -/
theorem test_syncR :
    got (exec .syncR { rxFull with rxRd := 1 }) (fun t => t.rxRdV == 1 && t.rxRd == 1) = true := by
  decide

/-- V-T1, V-T10: sent at once, the dlc clamped. -/
theorem test_submit_sent :
    got (exec (.submit { id := 0x148C4040, dlc := 9, data := 0x09 }) base) (fun t =>
      t.hist == [.txStart { id := 0x148C4040, dlc := 8, data := 0x09 }, .subAck .sent] &&
      t.sending == some { id := 0x148C4040, dlc := 8, data := 0x09 } && t.txInflight) = true := by
  decide

/-- V-T2, V-T3: queued, then refused. -/
theorem test_submit_queued_or_full :
    got (exec (.submit (fk 1)) busy) (fun t =>
      t.hist == [.subAck .queued] && t.txWr == 1 && t.txMem == [(0, pack (fk 1))]) = true ∧
    got (exec (.submit (fk 8)) txFull) (fun t =>
      t.hist == [.subAck .rejectedFull] && t.txWr == 7 && t.txMem == txFull.txMem) = true := by
  decide

/-- V-T5. -/
theorem test_txdoneC :
    got (exec .txdoneC txFull) (fun t => t.sending == none && t.txdonePending && t.txInflight) = true ∧
    stops (exec .txdoneC base) .stuckNothingInFlight = true := by
  decide

/-- V-T9. -/
theorem test_txdoneH_starts_next :
    got (exec .txdoneH donePending) (fun t =>
      t.hist == [.txStart (fk 1)] && t.txRd == 1 && t.txInflight && !t.txdonePending &&
      t.sending == some (fk 1)) = true := by
  decide

/-- V-T7. -/
theorem test_txdoneH_frees :
    got (exec .txdoneH { donePending with txWr := 0 }) (fun t =>
      t.hist == [] && !t.txInflight && !t.txdonePending && t.sending == none) = true := by
  decide

/-- V-I1, V-I3. -/
theorem test_init :
    got (exec (.init none) State.reset) (fun t =>
      t.nodeAddr == 0 && t.ready && t.hist == [.persistLoadReq]) = true ∧
    got (exec (.init (some 0x1FF)) State.reset) (fun t => t.nodeAddr == 0) = true ∧
    got (exec (.init (some 0x020)) State.reset) (fun t => t.nodeAddr == 0x020) = true :=
  ⟨rfl, rfl, rfl⟩

/-- V-I5: a poll before INIT waits. -/
theorem test_poll_waits :
    got (exec .poll State.reset) (fun t => t.pollReq == .raised () && t.hist == [] && t.fsm == .idle) = true := rfl

/-! ### Dispatcher (95 section 2.5) -/

/-- V-D1, V-D2. -/
theorem test_discover :
    answers (dispatchOf 0x1783FE40 0 []) 0x19808020 7 [0x01, 0x02, 0x00, 0x01, 0x00, 0x02, 0x03] = true ∧
    answers (dispatchOf 0x17844040 0 []) 0x19848020 7 [0x01, 0x02, 0x00, 0x01, 0x00, 0x02, 0x03] = true := by
  decide

/-- V-D7. -/
theorem test_nodeReset :
    got (sysStep (dispatchOf 0x171FFE40 0 [])) (fun t =>
      t.hist == [.resetTrigger] && t.halt == .resetTriggered && t.fsm == .terminal && t.pend == none) = true := by
  decide

/-- V-D3, V-D6. -/
theorem test_bcastInvalid :
    answers (dispatchOf 0x17884040 1 [0x00]) 0x19088020 1 [0x01] = true ∧
    answers (dispatchOf 0x171BFE40 2 [0x01, 0x02]) 0x19188020 1 [0x01] = true := by
  decide

/-- V-G1 to V-G7. -/
theorem test_getRegStandard :
    answers (dispatchOf 0x148C4040 1 [0x00]) 0x188C8020 3 [0x00, 0x01, 0x02] = true ∧
    answers (dispatchOf 0x148C4040 1 [0x01]) 0x188C8020 2 [0x01, 0x03] = true ∧
    answers (dispatchOf 0x148C4040 1 [0x02]) 0x188C8020 5 [0x02, 0x00, 0x01, 0x00, 0x02] = true ∧
    answers (dispatchOf 0x148C4040 1 [0x03]) 0x188C8020 7
      [0x03, 0x61, 0x62, 0x63, 0x00, 0x00, 0x00] = true ∧
    answers (dispatchOf 0x148C4040 1 [0x04]) 0x188C8020 2 [0x04, 0x2A] = true ∧
    answers (dispatchOf 0x148C4040 1 [0x05]) 0x188C8020 5 [0x05, 0x00, 0x00, 0x00, 0x00] = true ∧
    answers (dispatchOf 0x148C4040 1 [0x06]) 0x188C8020 2 [0x06, 0x01] = true := by
  decide

/-- V-G10. -/
theorem test_getReg_nodeId :
    answers (dispatchOf 0x148C4040 1 [0x09]) 0x188C8020 3 [0x09, 0x00, 0x20] = true := by decide

/-- V-G9. -/
theorem test_getRegUnassigned :
    answers (dispatchOf 0x14984040 1 [0x08]) 0x19188020 1 [0x03] = true := by decide

/-- V-G11, V-G12. -/
theorem test_getReg_delegated :
    acks (dispatchOf 0x148C4040 1 [0x0A]) .delegate { id := 0x148C4040, dlc := 1, data := 0x0A } = true ∧
    acks (dispatchOf 0x148C4040 1 [0xFF]) .delegate { id := 0x148C4040, dlc := 1, data := 0xFF } = true := by
  decide

/-- V-S1: the address, the store and the echo from the new address. -/
theorem test_setRegNodeId :
    got (sysStep (dispatchOf 0x14104040 3 [0x09, 0x01, 0xFE])) (fun t =>
      t.nodeAddr == 0x1FE && t.hist == [.persistStore 0x1FE] &&
      t.pend == some { id := 0x181081FE, dlc := 3, data := packData [0x09, 0x01, 0xFE] }) = true := by
  decide

/-- V-S2, V-S3, V-S5, V-S4: rejected values and sizes leave the address. -/
theorem test_setRegNodeId_rejects :
    answers (dispatchOf 0x14104040 3 [0x09, 0x01, 0xFF]) 0x19108020 1 [0x03] = true ∧
    answers (dispatchOf 0x14104040 2 [0x09, 0x01]) 0x19108020 1 [0x05] = true ∧
    answers (dispatchOf 0x14104040 3 [0x09, 0x00, 0x00]) 0x19108020 1 [0x03] = true ∧
    answers (dispatchOf 0x14104040 4 [0x09, 0x00, 0x30, 0x00]) 0x19108020 1 [0x05] = true := by
  decide

/-- V-S7, V-S8. -/
theorem test_setRegReadOnly :
    answers (dispatchOf 0x14044040 3 [0x00, 0x12, 0x34]) 0x19048020 1 [0x04] = true ∧
    answers (dispatchOf 0x14044040 8 [0x06, 0x01, 0x02, 0x03, 0x04, 0x05, 0x06, 0x07]) 0x19048020 1
      [0x04] = true := by
  decide

/-- V-S9. -/
theorem test_setRegUnassigned :
    answers (dispatchOf 0x14044040 2 [0x07, 0x00]) 0x19048020 1 [0x03] = true := by decide

/-- V-S10. -/
theorem test_setReg_delegated :
    acks (dispatchOf 0x14044040 2 [0x0A, 0x05]) .delegate
      { id := 0x14044040, dlc := 2, data := 0x050A } = true := by
  decide

/-- V-U1. -/
theorem test_nodeUpgrade_unsupported :
    answers (dispatchOf 0x16A44040 0 []) 0x19248020 1 [0x02] = true := by decide

/-- V-U4. -/
theorem test_nodeUpgrade :
    got (sysStep { dispatchOf 0x16A44040 0 [] with
      cfg := { Config.example95 with upgradeSupported := true } }) (fun t =>
      t.hist == [.upgradeTrigger] && t.halt == .upgradeTriggered && t.fsm == .terminal) = true := by
  decide

/-- V-B1, V-B2, V-B3. -/
theorem test_bit_operations :
    acks (dispatchOf 0x15084040 2 [0x0C, 0x03]) .delegate { id := 0x15084040, dlc := 2, data := 0x030C } = true ∧
    acks (dispatchOf 0x15884040 2 [0x0C, 0x03]) .delegate { id := 0x15884040, dlc := 2, data := 0x030C } = true ∧
    acks (dispatchOf 0x16084040 2 [0x0C, 0x03]) .delegate { id := 0x16084040, dlc := 2, data := 0x030C } = true := by
  decide

/-- V-G13, V-G14, V-S11, V-U2. -/
theorem test_nodeInvalid :
    answers (dispatchOf 0x149C4040 0 []) 0x191C8020 1 [0x01] = true ∧
    answers (dispatchOf 0x149C4040 2 [0x09, 0x00]) 0x191C8020 1 [0x01] = true ∧
    answers (dispatchOf 0x14044040 1 [0x09]) 0x19048020 1 [0x01] = true ∧
    answers (dispatchOf 0x16A44040 1 [0x00]) 0x19248020 1 [0x01] = true := by
  decide

/-- V-R1, V-R3. -/
theorem test_remotePassThrough :
    acks (dispatchOf 0x188C4040 3 [0x09, 0x00, 0x40]) .passThrough
      { id := 0x188C4040, dlc := 3, data := 0x400009 } = true ∧
    acks (dispatchOf 0x1B83FE40 8 [0x01, 0x02, 0x03, 0x04, 0x05, 0x06, 0x07, 0x08]) .passThrough
      { id := 0x1B83FE40, dlc := 8, data := 0x0807060504030201 } = true := by
  decide

/-- V-D4, V-G15, V-N1, V-N4, V-S14. -/
theorem test_noMatch :
    answers (dispatchOf 0x178C6040 0 []) 0x190C8020 1 [0x01] = true ∧
    answers (dispatchOf 0x14A3FE40 1 [0x09]) 0x19208020 1 [0x01] = true ∧
    answers (dispatchOf 0x0F844040 0 []) 0x19048020 1 [0x01] = true ∧
    answers (dispatchOf 0x1C07FE40 0 []) 0x19048020 1 [0x01] = true ∧
    answers (dispatchOf 0x1413FE40 3 [0x09, 0x00, 0x30]) 0x19108020 1 [0x01] = true := by
  decide

/-- V-X1, V-X2. -/
theorem test_rejectSrcBcast :
    acks (dispatchOf 0x1783FFFF 0 []) .rejected zeroFrame = true ∧
    acks (dispatchOf 0x148041FF 1 [0x09]) .rejected zeroFrame = true := by
  decide

/-- R151 (P1 step 4, P1 step 7, P3 step 13): sent, queued, dropped. -/
theorem test_respond :
    got (sysStep responding) (fun t =>
      t.hist == [.txStart { id := 0x188C8020, dlc := 2, data := 0x0301 },
                 .pollAck .handled .sent zeroFrame] && t.fsm == .idle && t.pend == none) = true ∧
    got (sysStep { responding with txInflight := true }) (fun t =>
      t.hist == [.pollAck .handled .queued zeroFrame] && t.txWr == 1) = true ∧
    got (sysStep { responding with txInflight := true, txWr := 7 }) (fun t =>
      t.hist == [.pollAck .handled .dropped zeroFrame] && t.txWr == 7 && t.pend == none) = true := by
  decide

/-- P4 after step 7: no step of SYS, BUS or SYNC (R203); TXDONE.C may still happen. -/
theorem test_terminal :
    stops (exec .poll stopped) .stuckTerminal = true ∧ stops (exec .syncW stopped) .stuckTerminal = true ∧
    stops (exec .txdoneH { stopped with txdonePending := true }) .stuckTerminal = true ∧
    got (exec .txdoneC { stopped with sending := some (fk 0) }) (fun t => t.txdonePending) = true := by
  decide

/-- Some values of the data ports between strobes. -/
def idlePorts : IdlePorts :=
  { txFrame := { id := 0x55, dlc := 15, data := 0xFF }, pollResult := .delegate, pollResp := .sent
    subResult := .queued, breqId := 0x77, psStoreAddr := 0x011 }

/-- The port codes (R81, R82) and the strobe of a rejected poll (R27). -/
theorem test_ports :
    [pollResultCode .nothingPending, pollResultCode .handled, pollResultCode .delegate,
     pollResultCode .passThrough, pollResultCode .rejected] = [0, 1, 2, 3, 4] ∧
    [respStatusCode .none, respStatusCode .sent, respStatusCode .queued, respStatusCode .dropped] =
      [0, 1, 2, 3] ∧
    [txResultCode .sent, txResultCode .queued, txResultCode .rejectedFull] = [1, 2, 3] ∧
    (outPorts idlePorts base { base with hist := [.pollAck .rejected .none zeroFrame] }).pollResult = 4 ∧
    (outPorts idlePorts base { base with hist := [.pollAck .rejected .none zeroFrame] }).pollAck = true ∧
    (outPorts idlePorts base base).subResult = 2 ∧ (outPorts idlePorts base base).txFrame.dlc = 8 := by
  decide

/-- R28, R200: `poll_req` high during its own poll is that poll's request; after the acknowledge it is no request when
lowered and a new one when still high. -/
theorem test_poll_request_levels :
    got (takeMove (.drivePoll true) responding) (fun t => t == responding) = true ∧
    got (takeMove (.serve .poll) responding) (fun t => t == responding) = true ∧
    got (takeMove (.drivePoll false) { base with pollReq := .taken () }) (fun t => t == base) = true ∧
    got (takeMove (.drivePoll true) { base with pollReq := .taken () })
      (fun t => t == { base with pollReq := .raised () }) = true ∧
    got (takeMove (.serve .poll) { base with pollReq := .taken () }) (fun t => t.hist == []) = true := by
  decide

/-- R84: a REQ's SUBMIT carries its BREQ's identifier; nothing is submitted while the BREQ waits. -/
theorem test_req_submit :
    got (takeMove (.submitBuilt 1 0x09) { base with hist := [.breqAck 0x14804020] }) (fun t =>
      t.sending == some { id := 0x14804020, dlc := 1, data := 0x09 }) = true ∧
    got (takeMove (.submitBuilt 1 0x09) { base with
      hist := [.breqAck 0x14804020], breqReq := .raised { typ := 0x09, dst := 0x040 } }) (fun t =>
        t.sending == none && t.hist == [.breqAck 0x14804020]) = true := by
  decide

/-! ### States and operands that meet the statements' hypotheses -/

theorem witness_inv_base : Inv base := by constructor <;> decide
theorem witness_inv_busy : Inv busy := by constructor <;> decide
theorem witness_inv_txFull : Inv txFull := by constructor <;> decide
theorem witness_inv_donePending : Inv donePending := by constructor <;> decide
theorem witness_inv_rxOne : Inv rxOne := by constructor <;> decide
theorem witness_inv_rxFull : Inv rxFull := by constructor <;> decide
theorem witness_inv_responding : Inv responding := by constructor <;> decide
theorem witness_inv_stopped : Inv stopped := by constructor <;> decide

/-- DISCOVER to self, a frame that is well formed as one row. -/
def discoverFrame : Frame := frame 0x0F 0 0

theorem witness_DecodeEncodeAgree :
    Config.example95.wf = true ∧ (Instr.discover discoverFrame).frame?.isSome = true ∧
    (Instr.discover discoverFrame).wf Config.example95 0x020 = true := by decide

theorem witness_DecodedCaseIsWellFormed :
    Config.example95.wf = true ∧
    ({ id := 0x14044040, dlc := 8, data := 0 } : WFrame).dlc ≤ maxDlc := by decide

theorem witness_RowsDoNotOverlap :
    Config.example95.wf = true ∧ (Instr.discover discoverFrame).frame? = some discoverFrame ∧
    (Instr.discover discoverFrame).wf Config.example95 0x020 = true := by decide

theorem witness_NotationReadBack :
    (Line.submit (.raw 0x1FFFFFFF 8 [1, 2, 3, 4, 5, 6, 7, 8])).wf = true ∧
    (Line.submit (.byFields 1 (.name .getReg) 0 0x020 0x040 1 [])).wf = true := by decide

/-- Clause 1, clause 2. -/
theorem witness_StepRunsDecodedInstruction :
    ({ dispatchOf 0x1783FE40 0 [] with agenda := [.sys] }).agenda = .sys :: [] ∧
    (dispatchOf 0x1783FE40 0 []).halt = .run ∧ (dispatchOf 0x1783FE40 0 []).fsm = .dispatch ∧
    ({ base with agenda := [.op .syncW, .sys] }).agenda = .op .syncW :: [.sys] ∧
    Instr.syncW.frame? = none := by decide

/-- `responding` with the channel busy, the RESPOND step next. -/
def respondingBusy (wr : BitVec 3) : State :=
  { responding with agenda := [.sys], txInflight := true, txWr := wr }

/-- The three clauses, each in RESPOND: channel free, busy with room (6 queued), busy and full (7 queued). -/
theorem witness_RespondStepSubmitsResponse :
    responding.halt = .run ∧ responding.fsm = .respond ∧
    responding.pend = some { id := 0x188C8020, dlc := 2, data := packData [0x01, 0x03] } ∧
    responding.txInflight = false ∧ ({ responding with agenda := [.sys] }).agenda = .sys :: [] ∧
    [respondingBusy 6, respondingBusy 7].all (fun s => s.agenda == [.sys] && s.halt == .run &&
      s.fsm == .respond && s.pend == responding.pend && s.txInflight) = true ∧
    cursorInc (respondingBusy 6).txWr ≠ (respondingBusy 6).txRd ∧
    cursorInc (respondingBusy 7).txWr = (respondingBusy 7).txRd := by decide

theorem witness_PollEndsInThreeTurns :
    Inv { rxOne with agenda := [.op .poll, .sys, .sys] } ∧
    rxOne.halt = .run ∧ acceptsRequests rxOne = true :=
  ⟨by constructor <;> decide, by decide, by decide⟩

theorem witness_StepKeepsInv :
    Inv { base with agenda := [.op (.rx (get10 0))] } ∧
    ∃ t, step { base with agenda := [.op (.rx (get10 0))] } = .next t :=
  ⟨by constructor <;> decide, _, rfl⟩

theorem witness_DispatcherNeverStuck : Inv { responding with agenda := [.sys] } := by
  constructor <;> decide

/-- The cursors at both ends of their range. -/
theorem witness_FifoArithmetic :
    0 < 4 ∧ (cursorInc (15 : BitVec 4)).toNat = 0 ∧ fifoFull (15 : BitVec 4) 0 = true ∧
    fifoCount (0 : BitVec 4) 1 = 15 ∧ fifoEmpty (7 : BitVec 3) 7 = true := by decide

/-- Full, not full, empty, not empty. -/
theorem witness_PushStoresAndPopReads :
    cursorInc (15 : BitVec 4) = 0 ∧ cursorInc (14 : BitVec 4) ≠ 0 ∧ (3 : BitVec 4) = 3 ∧
    (0 : BitVec 4) ≠ 15 := by decide

/-- Dropped, stored. -/
theorem witness_ReceiveStoresOrDrops :
    rxFull.halt = .run ∧ cursorInc rxFull.rxWr = rxFull.rxRdV ∧
    base.halt = .run ∧ cursorInc base.rxWr ≠ base.rxRdV := by decide

/-- Receive with room, receive when full, poll, another operation. -/
theorem witness_ReceiveOrderIsKept :
    Inv rxOne ∧ (∃ t, exec (.rx (get10 1)) rxOne = .next t) ∧
    Inv rxFull ∧ (∃ t, exec (.rx (get10 15)) rxFull = .next t) ∧
    (∃ t, exec .poll rxOne = .next t) ∧ (∃ t, exec .syncR rxOne = .next t) :=
  ⟨witness_inv_rxOne, ⟨_, rfl⟩, witness_inv_rxFull, ⟨_, rfl⟩, ⟨_, rfl⟩, ⟨_, rfl⟩⟩

/-- Sent, queued, refused, and another operation. -/
theorem witness_TransmitOrderIsKept :
    Inv base ∧ (∃ t, exec (.submit (fk 0)) base = .next t) ∧
    Inv busy ∧ (∃ t, exec (.submit (fk 1)) busy = .next t) ∧
    Inv txFull ∧ (∃ t, exec (.submit (fk 8)) txFull = .next t) ∧
    Inv donePending ∧ (∃ t, exec .txdoneH donePending = .next t) :=
  ⟨witness_inv_base, ⟨_, rfl⟩, witness_inv_busy, ⟨_, rfl⟩, witness_inv_txFull, ⟨_, rfl⟩,
   witness_inv_donePending, ⟨_, rfl⟩⟩

theorem witness_ResponseOrderIsKept :
    Inv responding ∧ responding.halt = .run ∧ responding.fsm = .respond ∧
    responding.pend = some { id := 0x188C8020, dlc := 2, data := packData [0x01, 0x03] } ∧
    ∃ t, sysStep responding = .next t :=
  ⟨witness_inv_responding, by decide, by decide, by decide, _, rfl⟩

/-- Both sides of each bound. -/
theorem witness_CapacityBounds :
    rxFull.halt = .run ∧ fifoCount rxFull.rxWr rxFull.rxRdV = 15 ∧
    fifoCount rxOne.rxWr rxOne.rxRdV ≠ 15 ∧ txFull.txInflight = true ∧
    fifoCount txFull.txWr txFull.txRd = 7 ∧ (txPath (fk 8) txFull).1 = .rejectedFull ∧
    (txPath (fk 1) busy).1 = .queued := by decide

theorem witness_SyncStepsCopyCursors :
    rxFull.halt = .run ∧ ({ rxOne with rxWrV := 0 }).rxWrV ≠ ({ rxOne with rxWrV := 0 }).rxWr := by
  decide

theorem witness_SyncIsNoOpUnderExact :
    Inv { rxOne with cfg := { Config.example95 with cdcView := .exact } } ∧
    ({ Config.example95 with cdcView := .exact } : Cfg).cdcView = .exact ∧ rxOne.halt = .run :=
  ⟨by constructor <;> decide, rfl, by decide⟩

theorem witness_ViewsCopyTheirCursors : ∃ t, exec (.rx (get10 0)) base = .next t := ⟨_, rfl⟩

/-- Another frame waits; then sent, queued (6 queued before) and refused, with the port low, taken, or raised with this
frame. -/
theorem witness_SubmitSendsQueuesOrRefuses :
    clampFrame { id := 1, dlc := 9, data := 0 } = { id := 1, dlc := 8, data := 0 } ∧
    ({ base with subReq := .raised (fk 1) }).subReq = .raised (fk 1) ∧ fk 1 ≠ fk 0 ∧
    [base, { base with subReq := .taken (fk 1) }, { base with subReq := .raised (fk 0) },
     { txFull with txWr := 6 }, txFull].all (fun s => s.halt == .run && acceptsRequests s &&
      (s.subReq == .raised (fk 0) || !lineRaised s.subReq)) = true ∧
    base.txInflight = false ∧ txFull.txInflight = true ∧
    cursorInc ({ txFull with txWr := 6 }).txWr ≠ ({ txFull with txWr := 6 }).txRd ∧
    cursorInc txFull.txWr = txFull.txRd := by decide

/-- Nothing queued, one queued. -/
theorem witness_HandlerStartsNextOrFrees :
    donePending.halt = .run ∧ donePending.txdonePending = true ∧ donePending.txRd ≠ donePending.txWr ∧
    ({ donePending with txWr := 0 }).txRd = ({ donePending with txWr := 0 }).txWr := by decide

theorem witness_CompletionLatchesPending :
    busy.sending = some { id := 0x1883FE20, dlc := 0, data := 0 } ∧ base.sending = none := by decide

theorem witness_BusHandlersCommute :
    donePending.halt = .run ∧ donePending.txdonePending = true := by decide

/-- Another request waits; the port low, taken, or raised with this request. -/
theorem witness_BuildRequestUsesNextNumber :
    base.halt = .run ∧ acceptsRequests base = true ∧ base.breqReq = .low ∧
    ({ base with breqReq := .taken { typ := 0x09, dst := 0x020 } }).breqReq ≠
      .raised { typ := 0x09, dst := 0x020 } ∧
    ({ base with breqReq := .raised { typ := 0x09, dst := 0x1FF } }).breqReq =
      .raised { typ := 0x09, dst := 0x1FF } ∧
    ({ typ := 0x09, dst := 0x1FF } : BreqArgs) ≠ { typ := 0x09, dst := 0x020 } := by decide

/-- Nothing in view, one entry in view. -/
theorem witness_PollFetchesOneEntry :
    base.halt = .run ∧ acceptsRequests base = true ∧ base.rxRd = base.rxWrV ∧
    rxOne.halt = .run ∧ acceptsRequests rxOne = true ∧ rxOne.rxRd ≠ rxOne.rxWrV := by decide

/-- Before INIT, and during a poll whose request is held; another request waits. -/
theorem witness_RequestsWaitUntilAccepted :
    State.reset.halt = .run ∧ acceptsRequests State.reset = false ∧ State.reset.fsm = .idle ∧
    responding.halt = .run ∧ acceptsRequests responding = false ∧ responding.fsm ≠ .idle ∧
    responding.pollReq = .taken () ∧ responding.subReq = .low ∧ responding.breqReq = .low ∧
    ({ responding with subReq := .raised (fk 1) }).subReq = .raised (fk 1) ∧ fk 1 ≠ fk 0 ∧
    ({ responding with breqReq := .raised { typ := 0x09, dst := 0x1FF } }).breqReq =
      .raised { typ := 0x09, dst := 0x1FF } ∧
    ({ typ := 0x09, dst := 0x1FF } : BreqArgs) ≠ { typ := 0x09, dst := 0x020 } :=
  ⟨rfl, rfl, rfl, by decide⟩

/-- Each port with a request raised, and each without. -/
theorem witness_WaitingRequestsAreServed :
    ({ base with pollReq := .raised () }).pollReq = .raised () ∧
    acceptsRequests { base with pollReq := .raised () } = true ∧ base.halt = .run ∧
    ({ base with subReq := .raised (fk 0) }).subReq = .raised (fk 0) ∧
    ({ base with breqReq := .raised { typ := 0x09, dst := 0x020 } }).breqReq =
      .raised { typ := 0x09, dst := 0x020 } ∧
    responding.pollReq ≠ .raised () ∧ lineRaised base.subReq = false ∧
    lineRaised base.breqReq = false := by decide

/-- Each port low, raised and taken, and a poll in progress. -/
theorem witness_RequestPortHandshake :
    base.halt = .run ∧ base.pollReq = .low ∧ ({ base with pollReq := .raised () }).pollReq = .raised () ∧
    responding.halt = .run ∧ responding.pollReq = .taken () ∧ responding.fsm ≠ .idle ∧
    ({ base with pollReq := .taken () }).pollReq = .taken () ∧ base.fsm = .idle ∧
    lineRaised base.subReq = false ∧ lineRaised base.breqReq = false ∧
    ({ base with subReq := .raised (fk 0) }).subReq = .raised (fk 0) ∧
    ({ base with breqReq := .raised { typ := 0x09, dst := 0x020 } }).breqReq =
      .raised { typ := 0x09, dst := 0x020 } := by decide

/-- Either reset state. -/
theorem witness_ResetValues : (afterReset txFull).txWr = 0 ∧ State.reset.txWr = 0 := ⟨rfl, rfl⟩

/-- The values at the ends of the legal range, 0x001 and 0x1FE, and those outside it. -/
theorem witness_InitLoadsAddress :
    ({ base with ready := false }).halt = .run ∧ ({ base with ready := false }).ready = false ∧
    normAddr none = 0 ∧ normAddr (some 0x000) = 0 ∧ normAddr (some 0x1FF) = 0 ∧
    normAddr (some 0x001) = 0x001 ∧ normAddr (some 0x1FE) = 0x1FE := by decide

/-- The dispatch cases: a running block in DISPATCH. -/
theorem witness_dispatching :
    (dispatchOf 0x1783FE40 0 []).halt = .run ∧ (dispatchOf 0x1783FE40 0 []).fsm = .dispatch := by decide

theorem witness_BroadcastSourceRejected : ({ frame 0 0 0 with src := 0x1FF }).src = 0x1FF := by decide

theorem witness_DiscoverAnsweredWithNodeInfo :
    Config.example95.wf = true ∧ discoverFrame.src ≠ bcast ∧ discoverFrame.dst = base.nodeAddr ∧
    ({ discoverFrame with dst := 0x1FF }).dst = bcast ∧
    discoverFrame.typ = Config.example95.typeCode.discover ∧ discoverFrame.dlc = 0 := by decide

theorem witness_NodeResetIsTerminal :
    (frame 0x0E 0 0).src ≠ bcast ∧ (frame 0x0E 0 0).dst = base.nodeAddr ∧
    (frame 0x0E 0 0).typ = Config.example95.typeCode.nodeReset ∧ (frame 0x0E 0 0).dlc = 0 := by decide

/-- Indices 9, 10, 7 and 0: the four clauses, at both sides of the bound. -/
theorem witness_SetRegDispatchesOnIndex :
    10 ≤ regIndex (frame 0x08 2 0x0A) ∧ regIndex (frame 0x08 2 0x09) < 10 ∧
    Config.example95.regMap.getD (regIndex (frame 0x08 2 0x09)) .unassigned = .nodeId ∧
    Config.example95.regMap.getD (regIndex (frame 0x08 2 0x07)) .unassigned = .unassigned ∧
    Config.example95.regMap.getD (regIndex (frame 0x08 2 0x00)) .unassigned ≠ .nodeId ∧
    Config.example95.regMap.getD (regIndex (frame 0x08 2 0x00)) .unassigned ≠ .unassigned := by decide

/-- Lengths 2 and 3; values 0x000, 0x001, 0x1FE and 0x1FF. -/
theorem witness_NodeIdWriteStoresAndEchoes :
    (frame 0x08 2 0x0109).dlc ≠ 3 ∧ (frame 0x08 3 0xFF0109).dlc = 3 ∧
    addrOperand (frame 0x08 3 0x000009) = 0x000 ∧ addrOperand (frame 0x08 3 0xFF0109) = 0x1FF ∧
    addrOperand (frame 0x08 3 0x010009) = 0x001 ∧ addrOperand (frame 0x08 3 0xFE0109) = 0x1FE ∧
    (0x1FE : Addr) = BitVec.ofNat 9 ((dataByte (frame 0x08 3 0xFE0109).data 1).toNat * 256 +
      (dataByte (frame 0x08 3 0xFE0109).data 2).toNat) := by decide

theorem witness_RegisterRowsByIndex :
    Config.example95.wf = true ∧ setRegRow base (frame 0x08 2 0x0A) ∧ getRegRow base (frame 0x09 1 0x09) := by
  refine ⟨by decide, ?_, ?_⟩ <;> simp only [setRegRow, getRegRow] <;> decide

/-- Indices 10, 8 and 9: the three clauses. -/
theorem witness_GetRegDispatchesOnIndex :
    10 ≤ regIndex (frame 0x09 1 0x0A) ∧ regIndex (frame 0x09 1 0x08) < 10 ∧
    Config.example95.regMap.getD (regIndex (frame 0x09 1 0x08)) .unassigned = .unassigned ∧
    regIndex (frame 0x09 1 0x09) < 10 ∧
    Config.example95.regMap.getD (regIndex (frame 0x09 1 0x09)) .unassigned ≠ .unassigned := by decide

theorem witness_UpgradeTriggersOrIsRefused :
    Config.example95.upgradeSupported = false ∧
    ({ Config.example95 with upgradeSupported := true } : Cfg).upgradeSupported = true ∧
    (frame 0x0D 0 0).src ≠ bcast ∧ (frame 0x0D 0 0).dst = base.nodeAddr ∧
    (frame 0x0D 0 0).typ = Config.example95.typeCode.nodeUpgrade ∧ (frame 0x0D 0 0).dlc = 0 := by decide

theorem witness_BitOperationsDelegated :
    (frame 0x0A 2 0).src ≠ bcast ∧ (frame 0x0A 2 0).dst = base.nodeAddr ∧ (frame 0x0A 2 0).dlc = 2 ∧
    (frame 0x0A 2 0).typ = Config.example95.typeCode.setBit ∧
    (frame 0x0B 2 0).typ = Config.example95.typeCode.clearBit ∧
    (frame 0x0C 2 0).typ = Config.example95.typeCode.toggleBit := by decide

theorem witness_RemoteGroupPassedThrough :
    (frame 0x17 8 0).src ≠ bcast ∧ Config.example95.groupRemote.contains (frame 0x17 8 0).typ = true := by
  decide

theorem witness_DispatchPrecedence :
    (dispatchOf 0x1783FE40 0 []).halt = .run ∧ (dispatchOf 0x1783FE40 0 []).fsm = .dispatch ∧
    { discoverFrame with dst := 0x1FF } = fields (dispatchOf 0x1783FE40 0 []).cur ∧
    (dispatchOf 0x1783FE40 0 []).cfg.wf = true := by decide

theorem witness_ResponsesMirrorRequests :
    (Instr.discover discoverFrame).frame? = some discoverFrame ∧
    ∃ t, exec (.discover discoverFrame) (dispatchOf 0x17804040 0 []) = .next t ∧ t.fsm = .respond :=
  ⟨rfl, _, rfl, rfl⟩

/-- The three outcomes. -/
theorem witness_DispatchOutcomes :
    (∃ t, exec (.setBit discoverFrame) (dispatchOf 0 0 []) = .next t ∧ t.fsm = .idle) ∧
    (∃ t, exec (.discover discoverFrame) (dispatchOf 0 0 []) = .next t ∧ t.fsm = .respond) ∧
    (∃ t, exec (.nodeReset discoverFrame) (dispatchOf 0 0 []) = .next t ∧ t.fsm = .terminal) :=
  ⟨⟨_, rfl, rfl⟩, ⟨_, rfl, rfl⟩, ⟨_, rfl, rfl⟩⟩

/-- Two GET_REG frames that differ in data byte 1 only. -/
theorem witness_UnusedDataBytesNeverRead :
    sameUpToUnused (frame 0x09 1 0x0009) (frame 0x09 1 0xAB09) ∧
    ∃ t, exec (classify Config.example95 0x020 (frame 0x09 1 0x0009)) (dispatchOf 0 0 []) = .next t := by
  refine ⟨⟨rfl, rfl, rfl, rfl, rfl, rfl, fun k hk => ?_⟩, _, rfl⟩
  have : k = 0 := by
    simp only [frame] at hk
    exact Nat.lt_one_iff.mp hk
  subst this
  decide

/-- The address by INIT and by SET_REG, the counter by BREQ. -/
theorem witness_RegisterWriters :
    (∃ t, exec (.init (some 0x020)) { base with ready := false, nodeAddr := 0 } = .next t ∧
      t.nodeAddr ≠ 0) ∧
    (∃ t, exec (.setRegNodeId (frame 0x08 3 0xFE0109)) (dispatchOf 0 0 []) = .next t ∧
      t.nodeAddr ≠ 0x020) ∧
    (∃ t, exec (.breq 0x09 0x020) base = .next t ∧ t.seq ≠ base.seq) :=
  ⟨⟨_, rfl, by decide⟩, ⟨_, rfl, by decide⟩, ⟨_, rfl, by decide⟩⟩

theorem witness_OnlyOwnersWrite :
    ∃ t, exec (.rx (get10 0)) base = .next t ∧ t.rxWr ≠ base.rxWr ∧ t.rxMem ≠ base.rxMem :=
  ⟨_, rfl, by decide, by decide⟩

theorem witness_HistoryOnlyGrows :
    ∃ t, exec (.submit (fk 0)) base = .next t ∧ t.hist.length = 2 := ⟨_, rfl, by decide⟩

theorem witness_NoStepAfterTerminalTrigger :
    stopped.halt ≠ .run ∧ (Instr.syncW : Instr) ≠ .txdoneC := by decide

theorem witness_TerminalStateIsFrozen :
    stopped.halt ≠ .run ∧ Move.sys ≠ .assertResets ∧ Move.sys ≠ .op .txdoneC ∧
    ∃ t, step { stopped with agenda := [.sys] } = .next t :=
  ⟨by decide, by decide, by decide, _, rfl⟩

/-- A SET_REG of NODE_ID to 0x1FE, a legal value. -/
def setNodeId : Frame := frame 0x08 3 0xFE0109

/-- Each clause in turn: an empty poll; delegate, pass-through, reject; the two triggers; the response sent, queued and
dropped; submit sent, queued and refused; build, start-up, address write, handler. -/
theorem witness_PortsCarryOutcome :
    (∃ t, exec .poll base = .next t ∧ acceptsRequests base = true ∧ base.rxRd = base.rxWrV) ∧
    (∃ t, exec (.setBit discoverFrame) (dispatchOf 0 0 []) = .next t) ∧
    (∃ t, exec (.remotePassThrough discoverFrame) (dispatchOf 0 0 []) = .next t) ∧
    (∃ t, exec (.rejectSrcBcast discoverFrame) (dispatchOf 0 0 []) = .next t) ∧
    (∃ t, exec (.nodeReset discoverFrame) (dispatchOf 0 0 []) = .next t) ∧
    (∃ t, exec (.nodeUpgrade discoverFrame) { dispatchOf 0 0 [] with
      cfg := { Config.example95 with upgradeSupported := true } } = .next t) ∧
    (∃ t, sysStep responding = .next t ∧ responding.txInflight = false) ∧
    (∃ t, sysStep (respondingBusy 6) = .next t ∧
      cursorInc (respondingBusy 6).txWr ≠ (respondingBusy 6).txRd) ∧
    (∃ t, sysStep (respondingBusy 7) = .next t ∧
      cursorInc (respondingBusy 7).txWr = (respondingBusy 7).txRd) ∧
    (∃ t, exec (.submit (fk 0)) base = .next t ∧ base.txInflight = false) ∧
    (∃ t, exec (.submit (fk 1)) busy = .next t ∧ acceptsRequests busy = true ∧
      cursorInc busy.txWr ≠ busy.txRd) ∧
    (∃ t, exec (.submit (fk 8)) txFull = .next t ∧ acceptsRequests txFull = true ∧
      cursorInc txFull.txWr = txFull.txRd) ∧
    (∃ t, exec (.breq 0x09 0x020) base = .next t) ∧
    (∃ t, exec (.init none) { base with ready := false } = .next t) ∧
    (∃ t, exec (.setRegNodeId setNodeId) (dispatchOf 0 0 []) = .next t ∧ setNodeId.dlc = 3 ∧
      addrOperand setNodeId ≠ 0 ∧ addrOperand setNodeId ≠ 0x1FF) ∧
    (∃ t, exec .txdoneH donePending = .next t ∧ donePending.txRd ≠ donePending.txWr) :=
  ⟨⟨_, rfl, by decide, by decide⟩, ⟨_, rfl⟩, ⟨_, rfl⟩, ⟨_, rfl⟩, ⟨_, rfl⟩, ⟨_, rfl⟩,
   ⟨_, rfl, by decide⟩, ⟨_, rfl, by decide⟩, ⟨_, rfl, by decide⟩, ⟨_, rfl, by decide⟩,
   ⟨_, rfl, by decide, by decide⟩, ⟨_, rfl, by decide, by decide⟩, ⟨_, rfl⟩, ⟨_, rfl⟩,
   ⟨_, rfl, by decide, by decide, by decide⟩, ⟨_, rfl, by decide⟩⟩

end Sys2Proof.Tests
end

section
/-! SUPPORT. What an operation that completes has done, said once over all 29 instructions: proofs about every
operation split along `ExecEffect`. -/

namespace Sys2Proof.Machine

/-- The kinds of completion of an operation `i` from `s`: the four outcomes of a dispatch case (R132 to R149), and what
each block operation does (R90, R91, R94, R105, R108, R109, R111, R113, R131, R183, R192, R194). -/
inductive ExecEffect (s : State) : Instr → State → Prop
  /-- A dispatch case ended the poll without a response. -/
  | pollEnded {i : Instr} {f : Frame} (hi : i.frame? = some f) (hrun : s.halt = .run)
      (hfsm : s.fsm = .dispatch) (r : PollResult) (w : WFrame) : ExecEffect s i (finishPoll r w s)
  /-- A dispatch case left a response pending. -/
  | responded {i : Instr} {f : Frame} (hi : i.frame? = some f) (hrun : s.halt = .run)
      (hfsm : s.fsm = .dispatch) (typ : MsgType) (payload : List Byte) :
      ExecEffect s i (respond typ payload f s)
  /-- The node address was written, and the write's response is pending (R138). -/
  | addrStored {i : Instr} {f : Frame} (hi : i = .setRegNodeId f ∨ i = .setReg f)
      (hrun : s.halt = .run) (hfsm : s.fsm = .dispatch) (hdlc : f.dlc = 3)
      (hok : addrRejected (addrOperand f) = false) :
      ExecEffect s i (respond .regExternallyChanged (nodeIdChangedPayload (addrOperand f)) f
        (storeNodeAddr (addrOperand f) s))
  /-- A terminal trigger (R135, R144). -/
  | triggered {i : Instr} {f : Frame} (hi : i = .nodeReset f ∨ i = .nodeUpgrade f)
      (hrun : s.halt = .run) (hfsm : s.fsm = .dispatch) (h : Halt) (hh : h ≠ .run) (e : Event) :
      ExecEffect s i (trigger h e s)
  /-- ENCODE (R90). -/
  | encoded (p t q d r : Nat) :
      ExecEffect s (.encode p t q d r) { s with encId := encodeId p t q d r }
  /-- DECODE (R91). -/
  | decoded (id : WireId) : ExecEffect s (.decode id) { s with
      decOut := { prio := idPrio id, typ := idType id, seq := idSeq id, dst := idDst id
                  src := idSrc id } }
  /-- BREQ accepted (R94). -/
  | built (typ : TypeCode) (dst : Addr) (hrun : s.halt = .run) (hacc : acceptsRequests s = true) :
      ExecEffect s (.breq typ dst)
        (buildRequest typ dst (setBreqReq (.taken { typ := typ, dst := dst }) s))
  /-- BREQ waits at its port (R194). -/
  | breqWaits (typ : TypeCode) (dst : Addr) (hrun : s.halt = .run)
      (hacc : acceptsRequests s = false) :
      ExecEffect s (.breq typ dst) (setBreqReq (.raised { typ := typ, dst := dst }) s)
  /-- POLL accepted: its fetch (R131). -/
  | fetched (hrun : s.halt = .run) (hacc : acceptsRequests s = true) :
      ExecEffect s .poll (fetch (setPollReq (.taken ()) s))
  /-- POLL waits at its port, or is the poll in progress (R194, R200). -/
  | pollWaits (hrun : s.halt = .run) (hacc : acceptsRequests s = false) (l : ReqLine Unit)
      (hl : raiseLine s.pollReq (pollAnswered s) () = some l) :
      ExecEffect s .poll (setPollReq l s)
  /-- SUBMIT accepted (R111). -/
  | submitted (w : WFrame) (hrun : s.halt = .run) (hacc : acceptsRequests s = true) :
      ExecEffect s (.submit w) (submitFrame w (setSubReq (.taken w) s))
  /-- SUBMIT waits at its port (R194). -/
  | submitWaits (w : WFrame) (hrun : s.halt = .run) (hacc : acceptsRequests s = false) :
      ExecEffect s (.submit w) (setSubReq (.raised w) s)
  /-- INIT (R192). -/
  | loaded (ans : Option Addr) (hrun : s.halt = .run) (hready : s.ready = false) :
      ExecEffect s (.init ans)
        { s with hist := s.hist ++ [.persistLoadReq], nodeAddr := normAddr ans, ready := true }
  /-- RX (R105). -/
  | received (w : WFrame) (hrun : s.halt = .run) :
      ExecEffect s (.rx w) (rxPush (clampFrame w) s)
  /-- TXDONE.C (R183). -/
  | completed (w : WFrame) (hsending : s.sending = some w) :
      ExecEffect s .txdoneC { s with sending := none, txdonePending := true }
  /-- TXDONE.H (R113). -/
  | handled (hrun : s.halt = .run) (hpending : s.txdonePending = true) :
      ExecEffect s .txdoneH (completeTx s)
  /-- SYNC.W (R108). -/
  | syncedWr (hrun : s.halt = .run) : ExecEffect s .syncW { s with rxWrV := s.rxWr }
  /-- SYNC.R (R109). -/
  | syncedRd (hrun : s.halt = .run) : ExecEffect s .syncR { s with rxRdV := s.rxRd }

/-- A dispatch case has the effect of its body on a running block in DISPATCH. -/
theorem ExecEffect.of_dispatching {i : Instr} {s t : State} {body : State → State}
    (h : dispatching s body = .next t)
    (hb : s.halt = .run → s.fsm = .dispatch → ExecEffect s i (body s)) : ExecEffect s i t := by
  obtain ⟨hrun, hfsm, rfl⟩ := dispatching_next.mp h
  exact hb hrun hfsm

/-- The write of NODE_ID answers an error, or stores and answers (R138). -/
theorem ExecEffect.of_writeNodeId {i : Instr} {f : Frame} {s : State}
    (hi : i = .setRegNodeId f ∨ i = .setReg f) (hrun : s.halt = .run) (hfsm : s.fsm = .dispatch) :
    ExecEffect s i (writeNodeId f s) := by
  have hf : i.frame? = some f := by rcases hi with rfl | rfl <;> rfl
  rcases writeNodeId_cases f s with ⟨-, h⟩ | ⟨-, -, h⟩ | ⟨hdlc, hok, h⟩ <;> rw [h]
  · exact .responded hf hrun hfsm _ _
  · exact .responded hf hrun hfsm _ _
  · exact .addrStored hi hrun hfsm hdlc hok

/-- SET_REG delegates, writes NODE_ID, or answers an error, by the index (R137). -/
theorem ExecEffect.of_setReg {f : Frame} {s t : State} (h : execSetReg f s = .next t) :
    ExecEffect s (.setReg f) t := by
  refine .of_dispatching h fun hrun hfsm => ?_
  split
  · exact .pollEnded rfl hrun hfsm _ _
  · split
    · exact .of_writeNodeId (.inr rfl) hrun hfsm
    · exact .responded rfl hrun hfsm _ _
    · exact .responded rfl hrun hfsm _ _

/-- GET_REG delegates, answers the register, or answers an error, by the index (R141). -/
theorem ExecEffect.of_getReg {f : Frame} {s t : State} (h : execGetReg f s = .next t) :
    ExecEffect s (.getReg f) t := by
  refine .of_dispatching h fun hrun hfsm => ?_
  split
  · exact .pollEnded rfl hrun hfsm _ _
  · split <;> exact .responded rfl hrun hfsm _ _

/-- NODE_UPGRADE triggers or answers an error, by the build (R144). -/
theorem ExecEffect.of_nodeUpgrade {f : Frame} {s t : State} (h : execNodeUpgrade f s = .next t) :
    ExecEffect s (.nodeUpgrade f) t := by
  refine .of_dispatching h fun hrun hfsm => ?_
  split
  · exact .triggered (.inr rfl) hrun hfsm _ (by decide) _
  · exact .responded rfl hrun hfsm _ _

/-- At a port that owes no acknowledge, presenting `a` leaves it raised with `a`. -/
theorem raiseLine_of_answered {α : Type} [DecidableEq α] {line l : ReqLine α} {a : α}
    (h : raiseLine line true a = some l) : l = .raised a := by
  obtain hl | ⟨hans, -⟩ := raiseLine_cases h
  · exact hl
  · cases hans

/-- Where the block accepts requests, one that completes was accepted. -/
theorem request_next_accepted {α : Type} [DecidableEq α] {line : ReqLine α} {answered : Bool}
    {setLine : ReqLine α → State → State} {a : α} {accept : State → State} {s t : State}
    (h : request line answered setLine a accept s = .next t) (hacc : acceptsRequests s = true) :
    t = accept (setLine (.taken a) s) := by
  obtain ⟨-, -, -, ⟨-, ht⟩ | ⟨hno, -⟩⟩ := request_next.mp h
  · exact ht
  · simp [hacc] at hno

/-- BREQ is accepted or waits at its port (R28, R94). -/
theorem ExecEffect.of_breq {typ : TypeCode} {dst : Addr} {s t : State}
    (h : execBreq typ dst s = .next t) : ExecEffect s (.breq typ dst) t := by
  obtain ⟨hrun, l, hl, ⟨hacc, rfl⟩ | ⟨hacc, rfl⟩⟩ := request_next.mp h
  · exact .built typ dst hrun hacc
  · obtain rfl := raiseLine_of_answered hl
    exact .breqWaits typ dst hrun hacc

/-- POLL is accepted or waits at its port (R28, R131). -/
theorem ExecEffect.of_poll {s t : State} (h : execPoll s = .next t) : ExecEffect s .poll t := by
  obtain ⟨hrun, l, hl, ⟨hacc, rfl⟩ | ⟨hacc, rfl⟩⟩ := request_next.mp h
  · exact .fetched hrun hacc
  · exact .pollWaits hrun hacc l hl

/-- SUBMIT is accepted or waits at its port (R28, R111). -/
theorem ExecEffect.of_submit {w : WFrame} {s t : State} (h : execSubmit w s = .next t) :
    ExecEffect s (.submit w) t := by
  obtain ⟨hrun, l, hl, ⟨hacc, rfl⟩ | ⟨hacc, rfl⟩⟩ := request_next.mp h
  · exact .submitted w hrun hacc
  · obtain rfl := raiseLine_of_answered hl
    exact .submitWaits w hrun hacc

/-- INIT completes on a running block that is not ready (R192). -/
theorem execInit_next {ans : Option Addr} {s t : State} :
    execInit ans s = .next t ↔ s.halt = .run ∧ s.ready = false ∧
      t = { s with hist := s.hist ++ [.persistLoadReq], nodeAddr := normAddr ans, ready := true } := by
  unfold execInit
  by_cases hrun : s.halt = .run
  · cases hready : s.ready <;> simp [hrun, eq_comm]
  · simp [hrun]

/-- TXDONE.C completes where a frame is in flight (R183). -/
theorem execTxdoneC_next {s t : State} :
    execTxdoneC s = .next t ↔
      (∃ w, s.sending = some w) ∧ t = { s with sending := none, txdonePending := true } := by
  unfold execTxdoneC
  cases s.sending <;> simp [eq_comm]

/-- TXDONE.H completes on a running block where a completion is pending (R113). -/
theorem execTxdoneH_next {s t : State} :
    execTxdoneH s = .next t ↔ s.halt = .run ∧ s.txdonePending = true ∧ t = completeTx s := by
  unfold execTxdoneH
  by_cases hrun : s.halt = .run
  · cases hp : s.txdonePending <;> simp [hrun, eq_comm]
  · simp [hrun]

/-- SYNC.W completes on a running block (R108). -/
theorem execSyncW_next {s t : State} :
    execSyncW s = .next t ↔ s.halt = .run ∧ t = { s with rxWrV := s.rxWr } := whileRunning_next

/-- SYNC.R completes on a running block (R109). -/
theorem execSyncR_next {s t : State} :
    execSyncR s = .next t ↔ s.halt = .run ∧ t = { s with rxRdV := s.rxRd } := whileRunning_next

/-- Every operation that completes has one of the effects. -/
theorem exec_effect {i : Instr} {s t : State} (h : exec i s = .next t) : ExecEffect s i t := by
  cases i with
  | rejectSrcBcast f => exact .of_dispatching h fun hrun hfsm => .pollEnded rfl hrun hfsm _ _
  | discover f => exact .of_dispatching h fun hrun hfsm => .responded rfl hrun hfsm _ _
  | nodeReset f =>
    exact .of_dispatching h fun hrun hfsm => .triggered (.inl rfl) hrun hfsm _ (by decide) _
  | bcastInvalid f => exact .of_dispatching h fun hrun hfsm => .responded rfl hrun hfsm _ _
  | setReg f => exact .of_setReg h
  | setRegNodeId f => exact .of_dispatching h fun hrun hfsm => .of_writeNodeId (.inl rfl) hrun hfsm
  | setRegReadOnly f => exact .of_dispatching h fun hrun hfsm => .responded rfl hrun hfsm _ _
  | setRegUnassigned f => exact .of_dispatching h fun hrun hfsm => .responded rfl hrun hfsm _ _
  | getReg f => exact .of_getReg h
  | getRegStandard f => exact .of_dispatching h fun hrun hfsm => .responded rfl hrun hfsm _ _
  | getRegUnassigned f => exact .of_dispatching h fun hrun hfsm => .responded rfl hrun hfsm _ _
  | nodeUpgrade f => exact .of_nodeUpgrade h
  | setBit f => exact .of_dispatching h fun hrun hfsm => .pollEnded rfl hrun hfsm _ _
  | clearBit f => exact .of_dispatching h fun hrun hfsm => .pollEnded rfl hrun hfsm _ _
  | toggleBit f => exact .of_dispatching h fun hrun hfsm => .pollEnded rfl hrun hfsm _ _
  | nodeInvalid f => exact .of_dispatching h fun hrun hfsm => .responded rfl hrun hfsm _ _
  | remotePassThrough f => exact .of_dispatching h fun hrun hfsm => .pollEnded rfl hrun hfsm _ _
  | noMatch f => exact .of_dispatching h fun hrun hfsm => .responded rfl hrun hfsm _ _
  | encode p t q d r => cases h; exact .encoded p t q d r
  | decode id => cases h; exact .decoded id
  | breq typ dst => exact .of_breq h
  | poll => exact .of_poll h
  | submit w => exact .of_submit h
  | init ans =>
    obtain ⟨hrun, hready, rfl⟩ := execInit_next.mp h
    exact .loaded ans hrun hready
  | rx w =>
    obtain ⟨hrun, rfl⟩ := whileRunning_next.mp h
    exact .received w hrun
  | txdoneC =>
    obtain ⟨⟨w, hw⟩, rfl⟩ := execTxdoneC_next.mp h
    exact .completed w hw
  | txdoneH =>
    obtain ⟨hrun, hp, rfl⟩ := execTxdoneH_next.mp h
    exact .handled hrun hp
  | syncW =>
    obtain ⟨hrun, rfl⟩ := execSyncW_next.mp h
    exact .syncedWr hrun
  | syncR =>
    obtain ⟨hrun, rfl⟩ := execSyncR_next.mp h
    exact .syncedRd hrun

end Sys2Proof.Machine
end

section
/-! SUPPORT. Which registers and which events the operations leave as they were. -/

namespace Sys2Proof.Machine

/-- From `s` to `t` the registers of R17, the configuration and `reset_cause` are unchanged. -/
structure KeepsRegisters (s t : State) : Prop where
  nodeAddr : t.nodeAddr = s.nodeAddr
  seq : t.seq = s.seq
  ready : t.ready = s.ready
  cfg : t.cfg = s.cfg
  resetCause : t.resetCause = s.resetCause

theorem rxPush_keepsRegisters (w : WFrame) (s : State) : KeepsRegisters s (rxPush w s) := by
  rcases rxPush_cases w s with ⟨-, h⟩ | ⟨-, h⟩ <;> rw [h] <;> constructor <;> rfl

theorem fetch_keepsRegisters (s : State) : KeepsRegisters s (fetch s) := by
  rcases fetch_cases s with ⟨-, h⟩ | ⟨-, h⟩ <;> rw [h] <;> constructor <;> rfl

theorem completeTx_keepsRegisters (s : State) : KeepsRegisters s (completeTx s) := by
  rcases completeTx_cases s with ⟨-, h⟩ | ⟨-, h⟩ <;> rw [h] <;> constructor <;> rfl

theorem submitFrame_keepsRegisters (w : WFrame) (s : State) :
    KeepsRegisters s (submitFrame w s) := by
  unfold submitFrame
  rcases txPath_cases w s with ⟨-, h⟩ | ⟨-, -, h⟩ | ⟨-, -, h⟩ <;> rw [h] <;> constructor <;> rfl

theorem KeepsRegisters.trans {s t u : State} (h : KeepsRegisters s t) (k : KeepsRegisters t u) :
    KeepsRegisters s u :=
  ⟨k.nodeAddr.trans h.nodeAddr, k.seq.trans h.seq, k.ready.trans h.ready, k.cfg.trans h.cfg,
    k.resetCause.trans h.resetCause⟩

/-- The three writers of R17: INIT of the address and `ready`, the NODE_ID write of the address, BREQ of the counter. -/
theorem ExecEffect.registers {i : Instr} {s t : State} (h : ExecEffect s i t) :
    KeepsRegisters s t ∨
    (∃ ans, i = .init ans ∧
      KeepsRegisters { s with nodeAddr := normAddr ans, ready := true } t) ∨
    (∃ f, (i = .setRegNodeId f ∨ i = .setReg f) ∧ addrRejected (addrOperand f) = false ∧
      KeepsRegisters { s with nodeAddr := addrOperand f } t) ∨
    (∃ typ dst, i = .breq typ dst ∧ KeepsRegisters { s with seq := s.seq + 1 } t) := by
  cases h with
  | loaded ans => exact .inr (.inl ⟨ans, rfl, by constructor <;> rfl⟩)
  | @addrStored i f hi _ _ _ hok => exact .inr (.inr (.inl ⟨f, hi, hok, by constructor <;> rfl⟩))
  | built typ dst => exact .inr (.inr (.inr ⟨typ, dst, rfl, by constructor <;> rfl⟩))
  | fetched => exact .inl (.trans (by constructor <;> rfl) (fetch_keepsRegisters _))
  | submitted w => exact .inl (.trans (by constructor <;> rfl) (submitFrame_keepsRegisters w _))
  | received w => exact .inl (rxPush_keepsRegisters _ _)
  | handled => exact .inl (completeTx_keepsRegisters _)
  | pollEnded | responded | triggered | encoded | decoded | breqWaits | pollWaits | submitWaits
  | completed | syncedWr | syncedRd => exact .inl (by constructor <;> rfl)

/-- INIT never loads the broadcast address (R193). -/
theorem normAddr_ne_bcast (ans : Option Addr) : normAddr ans ≠ bcast := by
  cases ans with
  | none => decide
  | some v =>
    simp only [normAddr]
    split
    · decide
    · assumption

/-- The addresses a SET_REG may store (R138). -/
theorem addrRejected_eq_false {v : Addr} : addrRejected v = false ↔ v ≠ 0 ∧ v ≠ bcast := by
  simp [addrRejected]

theorem rxPush_hist (w : WFrame) (s : State) : (rxPush w s).hist = s.hist := by
  rcases rxPush_cases w s with ⟨-, h⟩ | ⟨-, h⟩ <;> rw [h] <;> rfl

/-- The fetch's event: the acknowledge of an empty poll (R131). -/
theorem fetch_hist (s : State) : (fetch s).hist = s.hist ++
    if s.rxRd = s.rxWrV then [.pollAck .nothingPending .none zeroFrame] else [] := by
  rcases fetch_cases s with ⟨hv, h⟩ | ⟨hv, h⟩ <;> simp [h, hv]

/-- The transmit path's event: the start of a frame on a free channel (R111). -/
theorem txPath_hist (w : WFrame) (s : State) : (txPath w s).2.hist = s.hist ++
    if s.txInflight = false then [.txStart (clampFrame w)] else [] := by
  rcases txPath_cases w s with ⟨hf, h⟩ | ⟨hf, -, h⟩ | ⟨hf, -, h⟩ <;> simp [h, hf]

/-- The transmit path's result (R111). -/
theorem txPath_result (w : WFrame) (s : State) : (txPath w s).1 =
    if s.txInflight = false then .sent
    else if cursorInc s.txWr = s.txRd then .rejectedFull else .queued := by
  rcases txPath_cases w s with ⟨hf, h⟩ | ⟨hf, hc, h⟩ | ⟨hf, hc, h⟩
  · simp [h, hf]
  · simp [h, hf, hc]
  · simp [h, hf, hc]

/-- SUBMIT's events: the transmit path's and the acknowledge (R111). -/
theorem submitFrame_hist (w : WFrame) (s : State) : (submitFrame w s).hist = s.hist ++
    ((if s.txInflight = false then [.txStart (clampFrame w)] else []) ++
      [.subAck (txPath w s).1]) := by
  simp [submitFrame, txPath_hist]

/-- The handler's event: the start of the oldest queued frame (R113). -/
theorem completeTx_hist (s : State) : (completeTx s).hist = s.hist ++
    if s.txRd = s.txWr then []
    else [.txStart (unpack (Memory.read Config.freeTxSlot s.txMem s.txRd.toNat))] := by
  rcases completeTx_cases s with ⟨hv, h⟩ | ⟨hv, h⟩ <;> simp [h, hv]

/-- No effect takes an event out of `hist`, and none adds more than two (R20). -/
theorem ExecEffect.hist {i : Instr} {s t : State} (h : ExecEffect s i t) :
    ∃ l, t.hist = s.hist ++ l ∧ l.length ≤ 2 := by
  cases h with
  | pollEnded | addrStored | triggered | built | loaded => exact ⟨[_], rfl, by simp⟩
  | fetched => exact ⟨_, fetch_hist _, by split <;> simp⟩
  | submitted w => exact ⟨_, submitFrame_hist w _, by split <;> simp⟩
  | received w => exact ⟨[], by simp [rxPush_hist], by simp⟩
  | handled => exact ⟨_, completeTx_hist s, by split <;> simp⟩
  | responded | encoded | decoded | breqWaits | pollWaits | submitWaits | completed | syncedWr
  | syncedRd => exact ⟨[], (List.append_nil _).symm, by simp⟩

end Sys2Proof.Machine
end

section
/-! SUPPORT. The state after reset (R30, R190): the initial state is the state after the resets of the initial state, so
both are read off `afterReset`. -/

namespace Sys2Proof.Machine

open Safety

theorem afterReset_reset : afterReset State.reset = State.reset := rfl

theorem fifoCount_self {n : Nat} (cursor : BitVec n) : fifoCount cursor cursor = 0 := by
  simp [fifoCount]

/-- An empty FIFO has no unread slot, and so no unwritten one. -/
theorem written_self {n : Nat} (m : Memory) (cursor : BitVec n) :
    written m cursor (fifoCount cursor cursor) = true := by
  rw [fifoCount_self, written]

/-- After both resets the invariant holds, whatever the state before. -/
theorem inv_afterReset (s : State) : Inv (afterReset s) where
  pendingInflight := nofun
  idleEmpty _ := rfl
  inflightIff := rfl
  oneOutstanding := rfl
  viewOrder := by simp [afterReset, State.reset, fifoCount_self]
  exactViews _ := ⟨rfl, rfl⟩
  rxForm := rfl
  txForm := rfl
  rxWritten := written_self [] 0
  txWritten := written_self [] 0
  rxDlcs := rfl
  txDlcs := rfl
  curDlc := (by decide : zeroFrame.dlc ≤ maxDlc)
  sendingDlc := rfl
  addrLegal := (by decide : (0 : Addr) ≠ bcast)
  respondPend := ⟨nofun, nofun⟩
  pollHeld := nofun
  respondHandled := nofun
  terminalHalt := ⟨nofun, fun h => absurd rfl h⟩
  notReady _ := ⟨rfl, rfl, rfl, rfl⟩

end Sys2Proof.Machine
end

section
/-! SUPPORT. The output ports in the clock of a step, read off the events the step added (R20, R27). -/

namespace Sys2Proof.Machine

/-- The strobes are those of the events added. -/
theorem outPorts_of_hist {s t : State} {l : List Event} (idle : IdlePorts)
    (h : t.hist = s.hist ++ l) : outPorts idle s t = l.foldl strobe (quietPorts idle t) := by
  simp [outPorts, h]

/-- A clock without an event raises no strobe. -/
theorem outPorts_self (idle : IdlePorts) (s : State) : outPorts idle s s = quietPorts idle s :=
  outPorts_of_hist (l := []) idle (List.append_nil _).symm

end Sys2Proof.Machine
end

section
/-! SUPPORT. The request ports (R28): what a level presented at a port does, by what the port holds. -/

namespace Sys2Proof.Machine

theorem setPollReq_self {l : ReqLine Unit} {s : State} (h : s.pollReq = l) : setPollReq l s = s :=
  h ▸ rfl

section
variable {α : Type} [DecidableEq α] {line : ReqLine α} {setLine : ReqLine α → State → State}

/-- High at a port that is low or whose request is acknowledged: a new request. -/
theorem driveRequest_new {answered : Bool} (s : State) (a : α)
    (hl : line = .low ∨ (answered = true ∧ ∀ b, line ≠ .raised b)) :
    driveRequest line answered setLine (some a) s = .next (setLine (.raised a) s) := by
  rcases hl with rfl | ⟨rfl, hl⟩
  · rfl
  · simp only [driveRequest, raiseLine_answered fun b hb => absurd hb (hl b)]

/-- Low at a port that is low or whose request is acknowledged: the port is low. -/
theorem driveRequest_drop {answered : Bool} (s : State)
    (hl : line = .low ∨ (answered = true ∧ ∀ b, line ≠ .raised b)) :
    driveRequest line answered setLine none s = .next (setLine .low s) := by
  cases line with
  | low => rfl
  | raised b =>
    obtain hl | ⟨-, hl⟩ := hl
    · cases hl
    · exact absurd rfl (hl b)
  | taken b =>
    obtain hl | ⟨rfl, -⟩ := hl
    · cases hl
    · simp [driveRequest, lowerLine]

/-- High at a port where a request waits, or is accepted and not acknowledged: the same data hold that request, other data
stop the model. -/
theorem driveRequest_held {answered : Bool} (s : State) (a b : α)
    (hl : line = .raised b ∨ (answered = false ∧ line = .taken b)) :
    driveRequest line answered setLine (some a) s =
      if a = b then .next (setLine line s) else .fault .stuckRequestChanged := by
  rcases hl with rfl | ⟨rfl, rfl⟩ <;> by_cases hab : a = b <;>
    simp [driveRequest, raiseLine, hab]

/-- Low, in a running block, at a port where a request waits, or is accepted and not acknowledged: the model stops. -/
theorem driveRequest_withdrawn {answered : Bool} {s : State} {b : α} (hrun : s.halt = .run)
    (hl : line = .raised b ∨ (answered = false ∧ line = .taken b)) :
    driveRequest line answered setLine none s = .fault .stuckRequestWithdrawn := by
  rcases hl with rfl | ⟨rfl, rfl⟩ <;> simp [driveRequest, lowerLine, haltedLevel, hrun]

end

/-- A poll waits for its acknowledge outside IDLE. -/
theorem pollAnswered_iff {s : State} : pollAnswered s = true ↔ s.fsm = .idle := by
  simp [pollAnswered]

theorem pollAnswered_eq_false {s : State} : pollAnswered s = false ↔ s.fsm ≠ .idle := by
  simp [pollAnswered]

/-- A request that waits, of data `a`, may be accepted with them and no others. -/
theorem eq_of_raised {α : Type} {line : ReqLine α} {a b : α} (ha : line = .raised a)
    (hb : line = .raised b) : b = a :=
  ReqLine.raised.inj (hb.symm.trans ha)

/-- Sampling `poll_req` runs the POLL raised there, and else does nothing. -/
theorem serve_poll (s : State) : takeMove (.serve .poll) s =
    if s.pollReq = .raised () then execPoll s else .next s := by
  cases h : s.pollReq <;> simp [takeMove, serveRequest, h, exec]

theorem serve_submit_raised {w : WFrame} {s : State} (h : s.subReq = .raised w) :
    takeMove (.serve .submit) s = execSubmit w s := by
  simp [takeMove, serveRequest, h, exec]

theorem serve_submit_idle {s : State} (h : ∀ w, s.subReq ≠ .raised w) :
    takeMove (.serve .submit) s = .next s := by
  cases hl : s.subReq with
  | raised w => exact absurd hl (h w)
  | low | taken => simp [takeMove, serveRequest, hl]

theorem serve_breq_raised {a : BreqArgs} {s : State} (h : s.breqReq = .raised a) :
    takeMove (.serve .breq) s = execBreq a.typ a.dst s := by
  simp [takeMove, serveRequest, h, exec]

theorem serve_breq_idle {s : State} (h : ∀ a, s.breqReq ≠ .raised a) :
    takeMove (.serve .breq) s = .next s := by
  cases hl : s.breqReq with
  | raised a => exact absurd hl (h a)
  | low | taken => simp [takeMove, serveRequest, hl]

end Sys2Proof.Machine
end

section
/-! SUPPORT. The output ports after each kind of outcome (R27, R29, R81, R82). -/

namespace Sys2Proof.Machine

/-- From `s` to `t` the levels on the output ports are unchanged (R27, R29). -/
structure KeepsLevels (s t : State) : Prop where
  nodeAddr : t.nodeAddr = s.nodeAddr
  halt : t.halt = s.halt
  encId : t.encId = s.encId
  decOut : t.decOut = s.decOut

/-- Between strobes the ports depend on the levels alone. -/
theorem KeepsLevels.quietPorts {s t : State} (h : KeepsLevels s t) (idle : IdlePorts) :
    quietPorts idle t = quietPorts idle s := by
  simp [Machine.quietPorts, nodeAddrPort, rstTriggerLevel, upgTriggerLevel, haltedLevel, h.nodeAddr,
    h.halt, h.encId, h.decOut]

/-- A step that keeps the levels shows its events' strobes over the ports as they were. -/
theorem KeepsLevels.outPorts {s t : State} (h : KeepsLevels s t) (idle : IdlePorts)
    {l : List Event} (hl : t.hist = s.hist ++ l) :
    outPorts idle s t = l.foldl strobe (Machine.quietPorts idle s) := by
  rw [outPorts_of_hist idle hl, h.quietPorts]

theorem txPath_keepsLevels (w : WFrame) (s : State) : KeepsLevels s (txPath w s).2 := by
  rcases txPath_cases w s with ⟨-, h⟩ | ⟨-, -, h⟩ | ⟨-, -, h⟩ <;> rw [h] <;> constructor <;> rfl

theorem completeTx_keepsLevels (s : State) : KeepsLevels s (completeTx s) := by
  rcases completeTx_cases s with ⟨-, h⟩ | ⟨-, h⟩ <;> rw [h] <;> constructor <;> rfl

/-- An empty poll is acknowledged NOTHING_PENDING (R131). -/
theorem outPorts_fetch_empty (idle : IdlePorts) {s : State} (l : ReqLine Unit)
    (h : s.rxRd = s.rxWrV) : outPorts idle s (fetch (setPollReq l s)) =
      { quietPorts idle (fetch (setPollReq l s)) with
        pollAck := true, pollResult := 0, pollResp := 0, pollFrame := zeroFrame } := by
  have hhist : (fetch (setPollReq l s)).hist =
      s.hist ++ [.pollAck .nothingPending .none zeroFrame] := by simp [fetch_hist, h]
  exact outPorts_of_hist idle hhist

/-- A poll that ends without a response carries its code and frame (R81). -/
theorem outPorts_of_finishPoll (idle : IdlePorts) {r : PollResult} {w : WFrame} {s t : State}
    (h : dispatching s (finishPoll r w) = .next t) :
    outPorts idle s t = { quietPorts idle t with
      pollAck := true, pollResult := pollResultCode r, pollResp := 0, pollFrame := w } := by
  obtain ⟨-, -, rfl⟩ := dispatching_next.mp h
  exact outPorts_of_hist idle (finishPoll_hist r w s)

/-- NODE_RESET raises `rst_trigger` and `halted` (R135). -/
theorem outPorts_trigger_reset (idle : IdlePorts) (s : State) :
    outPorts idle s (trigger .resetTriggered .resetTrigger s) = { quietPorts idle s with
      rstTrigger := true, upgTrigger := false, halted := true } :=
  outPorts_of_hist idle (trigger_hist _ _ s)

/-- NODE_UPGRADE raises `upg_trigger` and `halted` (R144). -/
theorem outPorts_trigger_upgrade (idle : IdlePorts) (s : State) :
    outPorts idle s (trigger .upgradeTriggered .upgradeTrigger s) = { quietPorts idle s with
      rstTrigger := false, upgTrigger := true, halted := true } :=
  outPorts_of_hist idle (trigger_hist _ _ s)

/-- The response is acknowledged HANDLED with the transmit path's result, and started on a free channel (R151). -/
theorem outPorts_sendResponse (idle : IdlePorts) (w : WFrame) (s : State) :
    outPorts idle s (sendResponse w s) =
      if s.txInflight = false then { quietPorts idle s with
        txStart := true, txFrame := clampFrame w
        pollAck := true, pollResult := 1, pollResp := 1, pollFrame := zeroFrame }
      else { quietPorts idle s with
        pollAck := true, pollResult := 1
        pollResp := if cursorInc s.txWr = s.txRd then 3 else 2, pollFrame := zeroFrame } := by
  obtain ⟨ha, hh, he, hd⟩ := txPath_keepsLevels w s
  have hk : KeepsLevels s (sendResponse w s) := ⟨ha, hh, he, hd⟩
  have hhist : (sendResponse w s).hist = s.hist ++
      ((if s.txInflight = false then [.txStart (clampFrame w)] else []) ++
        [.pollAck .handled (respStatus (if s.txInflight = false then .sent
          else if cursorInc s.txWr = s.txRd then .rejectedFull else .queued)) zeroFrame]) := by
    simp [sendResponse, txPath_hist, txPath_result]
  rw [hk.outPorts idle hhist]
  cases s.txInflight with
  | false => rfl
  | true => by_cases hfull : cursorInc s.txWr = s.txRd <;> simp only [hfull, ↓reduceIte] <;> rfl

/-- SUBMIT is acknowledged with the transmit path's result, and started on a free channel (R82, R111). -/
theorem outPorts_submitFrame (idle : IdlePorts) (w : WFrame) (l : ReqLine WFrame) (s : State) :
    outPorts idle s (submitFrame w (setSubReq l s)) =
      if s.txInflight = false then { quietPorts idle s with
        txStart := true, txFrame := clampFrame w, subAck := true, subResult := 1 }
      else { quietPorts idle s with
        subAck := true, subResult := if cursorInc s.txWr = s.txRd then 3 else 2 } := by
  obtain ⟨ha, hh, he, hd⟩ := txPath_keepsLevels w (setSubReq l s)
  have hk : KeepsLevels s (submitFrame w (setSubReq l s)) := ⟨ha, hh, he, hd⟩
  have hhist : (submitFrame w (setSubReq l s)).hist = s.hist ++
      ((if s.txInflight = false then [.txStart (clampFrame w)] else []) ++
        [.subAck (if s.txInflight = false then .sent
          else if cursorInc s.txWr = s.txRd then .rejectedFull else .queued)]) := by
    rw [submitFrame_hist, txPath_result]
    rfl
  rw [hk.outPorts idle hhist]
  cases s.txInflight with
  | false => rfl
  | true => by_cases hfull : cursorInc s.txWr = s.txRd <;> simp only [hfull, ↓reduceIte] <;> rfl

/-- BREQ is acknowledged with the identifier built (R94). -/
theorem outPorts_buildRequest (idle : IdlePorts) (y : TypeCode) (d : Addr) (l : ReqLine BreqArgs)
    (s : State) : outPorts idle s (buildRequest y d (setBreqReq l s)) = { quietPorts idle s with
      breqAck := true, breqId := encodeFields s.cfg.corePrio y s.seq d s.nodeAddr } :=
  outPorts_of_hist idle (buildRequest_hist y d (setBreqReq l s))

/-- The transmit-complete handler starts the oldest queued frame (R113). -/
theorem outPorts_completeTx (idle : IdlePorts) {s : State} (h : s.txRd ≠ s.txWr) :
    outPorts idle s (completeTx s) = { quietPorts idle s with
      txStart := true
      txFrame := unpack (Memory.read Config.freeTxSlot s.txMem s.txRd.toNat) } := by
  have hhist := completeTx_hist s
  rw [if_neg h] at hhist
  exact (completeTx_keepsLevels s).outPorts idle hhist

/-- A SET_REG of NODE_ID with a legal value stores it and answers (R138). -/
theorem writeNodeId_stored {f : Frame} (s : State) (hdlc : f.dlc = 3)
    (hok : addrRejected (addrOperand f) = false) : writeNodeId f s =
      reply .setReg (nodeIdChangedPayload (addrOperand f)) f (storeNodeAddr (addrOperand f) s) := by
  simp [writeNodeId, hdlc, hok]

/-- NODE_UPGRADE on a build that supports it triggers (R144). -/
theorem execNodeUpgrade_next {f : Frame} {s t : State} (hup : s.cfg.upgradeSupported = true) :
    execNodeUpgrade f s = .next t ↔
      s.halt = .run ∧ s.fsm = .dispatch ∧ t = trigger .upgradeTriggered .upgradeTrigger s := by
  simp only [execNodeUpgrade, dispatching_next, hup, ↓reduceIte]

/-- Start-up raises the load request and drives the address loaded (R192). -/
theorem outPorts_loaded (idle : IdlePorts) (a : Addr) (s : State) :
    outPorts idle s { s with hist := s.hist ++ [.persistLoadReq], nodeAddr := a, ready := true } =
      { quietPorts idle s with psLoadReq := true, nodeAddrO := a } :=
  outPorts_of_hist (l := [.persistLoadReq]) idle rfl

end Sys2Proof.Machine
end

section
/-! Settled statements: the registers, the history, the reset state, the request ports and the output ports. -/

namespace Sys2Proof.Machine

/-- Settles O54: each operation keeps the registers or is one of the three writers. -/
theorem registerWriters : Obligations.RegisterWriters := by
  intro s t i h
  obtain k | ⟨ans, rfl, k⟩ | ⟨f, hi, hok, k⟩ | ⟨typ, dst, rfl, k⟩ := (exec_effect h).registers
  · exact ⟨fun hn => absurd k.nodeAddr hn, fun hn => absurd k.nodeAddr hn,
      fun hn => absurd k.seq hn, fun hn => absurd k.ready hn, k.cfg, k.resetCause⟩
  · exact ⟨fun _ => .inl ⟨ans, rfl⟩, fun _ => k.nodeAddr ▸ normAddr_ne_bcast ans,
      fun hn => absurd k.seq hn, fun _ => ⟨ans, rfl⟩, k.cfg, k.resetCause⟩
  · obtain ⟨hzero, hbcast⟩ := addrRejected_eq_false.mp hok
    exact ⟨fun _ => .inr ⟨f, hi, k.nodeAddr ▸ hzero⟩, fun _ => k.nodeAddr ▸ hbcast,
      fun hn => absurd k.seq hn, fun hn => absurd k.ready hn, k.cfg, k.resetCause⟩
  · exact ⟨fun hn => absurd k.nodeAddr hn, fun hn => absurd k.nodeAddr hn,
      fun _ => ⟨typ, dst, rfl⟩, fun hn => absurd k.ready hn, k.cfg, k.resetCause⟩

/-- Settles O56, by the events of each effect. -/
theorem historyOnlyGrows : Obligations.HistoryOnlyGrows := fun _ _ _ h => (exec_effect h).hist

/-- Settles O15: the initial state is a state after both resets. -/
theorem resetHasInv : Obligations.ResetHasInv := inv_afterReset State.reset

/-- Settles O17: both reset states are `afterReset` of a state. -/
theorem resetValues : Obligations.ResetValues := by
  refine ⟨fun s => ⟨rfl, rfl⟩, fun s t ht => ?_⟩
  obtain ⟨u, rfl⟩ : ∃ u, t = afterReset u := by
    rcases ht with rfl | rfl
    · exact ⟨_, afterReset_reset.symm⟩
    · exact ⟨s, rfl⟩
  refine ⟨rfl, rfl, rfl, rfl, rfl, rfl, rfl, rfl, rfl, rfl, rfl, rfl, rfl, rfl, rfl, rfl, rfl, rfl,
    rfl, rfl, fun idle => ?_⟩
  rw [outPorts_self]
  exact ⟨rfl, rfl, rfl, rfl, rfl, rfl⟩

/-- Settles O35: a raised request is accepted with its own data. -/
theorem waitingRequestsAreServed : Obligations.WaitingRequestsAreServed := by
  intro s hrun
  refine ⟨fun hacc => ⟨fun hl => ?_, fun w hl => ?_, fun a hl => ?_⟩,
    fun hl => (serve_poll s).trans (if_neg hl), serve_submit_idle, serve_breq_idle⟩
  · obtain ⟨-, -, hans⟩ := acceptsRequests_iff.mp hacc
    rw [serve_poll, if_pos hl]
    exact request_accepted hrun hacc hans fun _ _ => rfl
  · rw [serve_submit_raised hl]
    exact request_accepted hrun hacc rfl fun _ => eq_of_raised hl
  · rw [serve_breq_raised hl]
    exact request_accepted hrun hacc rfl fun _ => eq_of_raised hl

/-- Settles O59: each clause by the outcome it names. -/
theorem portsCarryOutcome : Obligations.PortsCarryOutcome := by
  intro idle s t f w
  refine ⟨fun h hacc hempty => ?emptyPoll, fun h => ?delegated, fun h => ?passedThrough,
    fun h => ?rejected, fun h => ?nodeReset, fun h hup => ?nodeUpgrade,
    fun hrun hfsm hpend h => ?response, fun h hacc => ?submit, fun y d h hacc => ?breq,
    fun ans h => ?init, fun h hdlc hzero hbcast => ?addressWrite, fun h hqueued => ?handler⟩
  case emptyPoll =>
    obtain rfl := request_next_accepted h hacc
    exact outPorts_fetch_empty idle _ hempty
  case delegated => exact outPorts_of_finishPoll idle (r := .delegate) h
  case passedThrough => exact outPorts_of_finishPoll idle (r := .passThrough) h
  case rejected => exact outPorts_of_finishPoll idle (r := .rejected) h
  case nodeReset =>
    obtain ⟨-, -, rfl⟩ := dispatching_next.mp h
    exact outPorts_trigger_reset idle s
  case nodeUpgrade =>
    obtain ⟨-, -, rfl⟩ := (execNodeUpgrade_next hup).mp h
    exact outPorts_trigger_upgrade idle s
  case response =>
    have hstep : sysStep s = .next (sendResponse w s) := by
      simp [sysStep, hrun, hfsm, respondStep, hpend]
    obtain rfl : sendResponse w s = t := Host.Outcome.next.inj (hstep.symm.trans h)
    exact outPorts_sendResponse idle w s
  case submit =>
    obtain rfl := request_next_accepted h hacc
    exact outPorts_submitFrame idle w _ s
  case breq =>
    obtain rfl := request_next_accepted h hacc
    exact outPorts_buildRequest idle y d _ s
  case init =>
    obtain ⟨-, -, rfl⟩ := execInit_next.mp h
    exact outPorts_loaded idle _ s
  case addressWrite =>
    obtain ⟨-, -, rfl⟩ := dispatching_next.mp h
    rw [writeNodeId_stored s hdlc (addrRejected_eq_false.mpr ⟨hzero, hbcast⟩)]
    exact outPorts_of_hist idle (storeNodeAddr_hist _ s)
  case handler =>
    obtain ⟨-, -, rfl⟩ := execTxdoneH_next.mp h
    exact outPorts_completeTx idle hqueued

/-- Settles O60: each port by what it holds. -/
theorem requestPortHandshake : Obligations.RequestPortHandshake := by
  intro s hrun
  refine ⟨fun hl => ?pollLow, fun hl => ?pollRaised, fun hl hfsm => ?pollInProgress,
    fun hl hfsm => ?pollAnswered, fun w hl => ?submitNew, fun w u hl => ?submitHeld,
    fun a hl => ?breqNew, fun a b hl => ?breqHeld⟩
  case pollLow =>
    exact ⟨driveRequest_new s () (.inl hl),
      (driveRequest_drop s (.inl hl)).trans (congrArg _ (setPollReq_self hl))⟩
  case pollRaised =>
    exact ⟨(driveRequest_held s () () (.inl hl)).trans (if_pos rfl),
      driveRequest_withdrawn hrun (.inl hl)⟩
  case pollInProgress =>
    have hheld : s.pollReq = .raised () ∨ pollAnswered s = false ∧ s.pollReq = .taken () :=
      .inr ⟨pollAnswered_eq_false.mpr hfsm, hl⟩
    exact ⟨(driveRequest_held s () () hheld).trans (if_pos rfl), driveRequest_withdrawn hrun hheld⟩
  case pollAnswered =>
    have hnew : pollAnswered s = true ∧ ∀ b, s.pollReq ≠ .raised b :=
      ⟨pollAnswered_iff.mpr hfsm, by simp [hl]⟩
    exact ⟨driveRequest_new s () (.inr hnew), driveRequest_drop s (.inr hnew)⟩
  case submitNew =>
    exact ⟨driveRequest_new s w (.inr ⟨rfl, hl⟩), driveRequest_drop s (.inr ⟨rfl, hl⟩)⟩
  case submitHeld =>
    exact ⟨driveRequest_held s w u (.inl hl), driveRequest_withdrawn hrun (.inl hl)⟩
  case breqNew =>
    exact ⟨driveRequest_new s a (.inr ⟨rfl, hl⟩), driveRequest_drop s (.inr ⟨rfl, hl⟩)⟩
  case breqHeld =>
    exact ⟨driveRequest_held s a b (.inl hl), driveRequest_withdrawn hrun (.inl hl)⟩

end Sys2Proof.Machine
end

section
/-! SUPPORT. Who writes what (R53, R180): the elements each kind of operation may write, and how it writes the views. -/

namespace Sys2Proof.Machine

/-- From `s` to `t` the elements that R53 and R180 give an owner are unchanged, the views and the registers apart. -/
structure KeepsOwned (s t : State) : Prop where
  rxMem : t.rxMem = s.rxMem
  rxWr : t.rxWr = s.rxWr
  rxRd : t.rxRd = s.rxRd
  txMem : t.txMem = s.txMem
  txWr : t.txWr = s.txWr
  txRd : t.txRd = s.txRd
  txInflight : t.txInflight = s.txInflight
  txdonePending : t.txdonePending = s.txdonePending
  cur : t.cur = s.cur
  fsm : t.fsm = s.fsm
  halt : t.halt = s.halt

/-- The table of owners: an operation from `s` to `t` keeps what it does not own. The elements it may write are those
that `s` is given `t`'s value of. -/
inductive OwnerWrites (s : State) : Instr → State → Prop
  /-- An operation that owns nothing of these, or leaves all of it. -/
  | nothing {i : Instr} {t : State} (k : KeepsOwned s t) : OwnerWrites s i t
  /-- A dispatch case; the two with a trigger also own `halt`. -/
  | dispatched {i : Instr} {t : State} (hi : i.frame?.isSome = true)
      (hhalt : t.halt ≠ s.halt → ∃ f, i = .nodeReset f ∨ i = .nodeUpgrade f)
      (k : KeepsOwned { s with fsm := t.fsm, halt := t.halt } t) : OwnerWrites s i t
  /-- The RX FIFO's reader and the dispatcher's start. -/
  | polled {t : State} (k : KeepsOwned { s with rxRd := t.rxRd, cur := t.cur, fsm := t.fsm } t) :
      OwnerWrites s .poll t
  /-- The RX FIFO's writer. -/
  | received (w : WFrame) {t : State}
      (k : KeepsOwned { s with rxMem := t.rxMem, rxWr := t.rxWr } t) : OwnerWrites s (.rx w) t
  /-- The TX FIFO's writer, which takes the channel. -/
  | submitted (w : WFrame) {t : State}
      (k : KeepsOwned { s with txMem := t.txMem, txWr := t.txWr, txInflight := t.txInflight } t) :
      OwnerWrites s (.submit w) t
  /-- The TX FIFO's reader, which frees the channel. -/
  | handled {t : State} (k : KeepsOwned
      { s with txRd := t.txRd, txInflight := t.txInflight, txdonePending := t.txdonePending } t) :
      OwnerWrites s .txdoneH t
  /-- The TRANSPORT's completion. -/
  | completed {t : State} (k : KeepsOwned { s with txdonePending := t.txdonePending } t) :
      OwnerWrites s .txdoneC t

theorem fetch_ownerWrites (l : ReqLine Unit) (s : State) :
    OwnerWrites s .poll (fetch (setPollReq l s)) := by
  rcases fetch_cases (setPollReq l s) with ⟨-, h⟩ | ⟨-, h⟩ <;> rw [h] <;>
    exact .polled (by constructor <;> rfl)

theorem rxPush_ownerWrites (v w : WFrame) (s : State) : OwnerWrites s (.rx w) (rxPush v s) := by
  rcases rxPush_cases v s with ⟨-, h⟩ | ⟨-, h⟩ <;> rw [h] <;>
    exact .received w (by constructor <;> rfl)

theorem submitFrame_ownerWrites (w : WFrame) (l : ReqLine WFrame) (s : State) :
    OwnerWrites s (.submit w) (submitFrame w (setSubReq l s)) := by
  unfold submitFrame
  rcases txPath_cases w (setSubReq l s) with ⟨-, h⟩ | ⟨-, -, h⟩ | ⟨-, -, h⟩ <;> rw [h] <;>
    exact .submitted w (by constructor <;> rfl)

theorem completeTx_ownerWrites (s : State) : OwnerWrites s .txdoneH (completeTx s) := by
  rcases completeTx_cases s with ⟨-, h⟩ | ⟨-, h⟩ <;> rw [h] <;>
    exact .handled (by constructor <;> rfl)

/-- Every effect stands in the table of owners. -/
theorem ExecEffect.ownerWrites {i : Instr} {s t : State} (h : ExecEffect s i t) :
    OwnerWrites s i t := by
  cases h with
  | pollEnded hi | responded hi =>
    exact .dispatched (hi ▸ rfl) (absurd rfl) (by constructor <;> rfl)
  | addrStored hi =>
    exact .dispatched (by rcases hi with rfl | rfl <;> rfl) (absurd rfl) (by constructor <;> rfl)
  | triggered hi =>
    exact .dispatched (by rcases hi with rfl | rfl <;> rfl) (fun _ => ⟨_, hi⟩)
      (by constructor <;> rfl)
  | fetched => exact fetch_ownerWrites _ s
  | submitted w => exact submitFrame_ownerWrites w _ s
  | received w => exact rxPush_ownerWrites _ w s
  | handled => exact completeTx_ownerWrites s
  | completed => exact .completed (by constructor <;> rfl)
  | encoded | decoded | built | breqWaits | pollWaits | submitWaits | loaded | syncedWr
  | syncedRd => exact .nothing (by constructor <;> rfl)

/-- From `s` to `t` each RX view is left alone, or is its cursor's copy after (R51). -/
structure ViewsCopied (s t : State) : Prop where
  wr : t.rxWrV = s.rxWrV ∨ t.rxWrV = t.rxWr
  rd : t.rxRdV = s.rxRdV ∨ t.rxRdV = t.rxRd

/-- A step that writes `RX.wr_v` under `EXACT` alone, as `publishWr` does (R105, R110). -/
theorem ViewsCopied.of_publishWr {s t : State}
    (hwr : t.rxWrV = if s.cfg.cdcView = .exact then t.rxWr else s.rxWrV)
    (hrd : t.rxRdV = s.rxRdV) : ViewsCopied s t := by
  refine ⟨?_, .inl hrd⟩
  split at hwr
  · exact .inr hwr
  · exact .inl hwr

/-- A step that writes `RX.rd_v` under `EXACT` alone, as `publishRd` does (R107, R110). -/
theorem ViewsCopied.of_publishRd {s t : State} (hwr : t.rxWrV = s.rxWrV)
    (hrd : t.rxRdV = if s.cfg.cdcView = .exact then t.rxRd else s.rxRdV) : ViewsCopied s t := by
  refine ⟨.inl hwr, ?_⟩
  split at hrd
  · exact .inr hrd
  · exact .inl hrd

theorem rxPush_viewsCopied (w : WFrame) (s : State) : ViewsCopied s (rxPush w s) := by
  rcases rxPush_cases w s with ⟨-, h⟩ | ⟨-, h⟩ <;> rw [h] <;> exact .of_publishWr rfl rfl

theorem fetch_viewsCopied (l : ReqLine Unit) (s : State) :
    ViewsCopied s (fetch (setPollReq l s)) := by
  rcases fetch_cases (setPollReq l s) with ⟨-, h⟩ | ⟨-, h⟩ <;> rw [h] <;>
    exact .of_publishRd rfl rfl

theorem submitFrame_viewsCopied (w : WFrame) (l : ReqLine WFrame) (s : State) :
    ViewsCopied s (submitFrame w (setSubReq l s)) := by
  unfold submitFrame
  rcases txPath_cases w (setSubReq l s) with ⟨-, h⟩ | ⟨-, -, h⟩ | ⟨-, -, h⟩ <;> rw [h] <;>
    exact ⟨.inl rfl, .inl rfl⟩

theorem completeTx_viewsCopied (s : State) : ViewsCopied s (completeTx s) := by
  rcases completeTx_cases s with ⟨-, h⟩ | ⟨-, h⟩ <;> rw [h] <;> exact ⟨.inl rfl, .inl rfl⟩

/-- A view is written by SYNC, and under `EXACT` by the step that may write its cursor, each time by copying. -/
theorem ExecEffect.viewsCopied {i : Instr} {s t : State} (h : ExecEffect s i t) :
    ViewsCopied s t := by
  cases h with
  | syncedWr => exact ⟨.inr rfl, .inl rfl⟩
  | syncedRd => exact ⟨.inl rfl, .inr rfl⟩
  | received => exact rxPush_viewsCopied _ s
  | fetched => exact fetch_viewsCopied _ s
  | submitted w => exact submitFrame_viewsCopied w _ s
  | handled => exact completeTx_viewsCopied s
  | pollEnded | responded | addrStored | triggered | encoded | decoded | built | breqWaits
  | pollWaits | submitWaits | loaded | completed => exact ⟨.inl rfl, .inl rfl⟩

end Sys2Proof.Machine
end

section
/-! Settled statements: the views and the owners of the FIFO cursors, the flags and the control state. -/

namespace Sys2Proof.Machine

/-- Settles O27, by the writes of each effect to the views. -/
theorem viewsCopyTheirCursors : Obligations.ViewsCopyTheirCursors := by
  intro s t i h
  obtain ⟨hwr, hrd⟩ := (exec_effect h).viewsCopied
  exact ⟨hwr, hrd⟩

/-- Settles O55, row by row of the table of owners. -/
theorem onlyOwnersWrite : Obligations.OnlyOwnersWrite := by
  intro s t i h
  cases (exec_effect h).ownerWrites with
  | nothing k =>
    exact ⟨absurd k.rxWr, absurd k.rxMem, absurd k.rxRd, absurd k.txWr, absurd k.txMem,
      absurd k.txRd, absurd k.txInflight, absurd k.txdonePending, absurd k.cur, absurd k.fsm,
      absurd k.halt⟩
  | dispatched hi hhalt k =>
    exact ⟨absurd k.rxWr, absurd k.rxMem, absurd k.rxRd, absurd k.txWr, absurd k.txMem,
      absurd k.txRd, absurd k.txInflight, absurd k.txdonePending, absurd k.cur, fun _ => .inr hi,
      hhalt⟩
  | polled k =>
    exact ⟨absurd k.rxWr, absurd k.rxMem, fun _ => rfl, absurd k.txWr, absurd k.txMem,
      absurd k.txRd, absurd k.txInflight, absurd k.txdonePending, fun _ => rfl,
      fun _ => .inl rfl, absurd k.halt⟩
  | received w k =>
    exact ⟨fun _ => ⟨w, rfl⟩, fun _ => ⟨w, rfl⟩, absurd k.rxRd, absurd k.txWr, absurd k.txMem,
      absurd k.txRd, absurd k.txInflight, absurd k.txdonePending, absurd k.cur, absurd k.fsm,
      absurd k.halt⟩
  | submitted w k =>
    exact ⟨absurd k.rxWr, absurd k.rxMem, absurd k.rxRd, fun _ => ⟨w, rfl⟩, fun _ => ⟨w, rfl⟩,
      absurd k.txRd, fun _ => .inr ⟨w, rfl⟩, absurd k.txdonePending, absurd k.cur,
      absurd k.fsm, absurd k.halt⟩
  | handled k =>
    exact ⟨absurd k.rxWr, absurd k.rxMem, absurd k.rxRd, absurd k.txWr, absurd k.txMem,
      fun _ => rfl, fun _ => .inl rfl, fun _ => .inl rfl, absurd k.cur, absurd k.fsm,
      absurd k.halt⟩
  | completed k =>
    exact ⟨absurd k.rxWr, absurd k.rxMem, absurd k.rxRd, absurd k.txWr, absurd k.txMem,
      absurd k.txRd, absurd k.txInflight, fun _ => .inr rfl, absurd k.cur, absurd k.fsm,
      absurd k.halt⟩

end Sys2Proof.Machine
end

section
/-! SUPPORT. The values of the packed words as numbers, and that each layout is read back: the FIFO entry (R65, R66), the
bytes of a stored frame, the fields of a frame (R95). -/

namespace Sys2Proof.Machine

/-- Concatenation as arithmetic: `x` stands above the `n` bits of `y`. -/
theorem toNat_append_eq_mul_add {m n : Nat} (x : BitVec m) (y : BitVec n) :
    (x ++ y).toNat = x.toNat * 2 ^ n + y.toNat := by
  rw [BitVec.toNat_append, ← Nat.shiftLeft_add_eq_or_of_lt y.isLt, Nat.shiftLeft_eq]

/-- A slice as arithmetic. -/
theorem toNat_slice {n : Nat} (start len : Nat) (x : BitVec n) :
    (x.extractLsb' start len).toNat = x.toNat / 2 ^ start % 2 ^ len := by
  rw [BitVec.extractLsb'_toNat, Nat.shiftRight_eq_div_pow]

/-- Reassembly keeps the low five bits of sub-byte 0 (R66). -/
theorem toNat_idOfBytes (b0 b1 b2 b3 : Byte) :
    (idOfBytes b0 b1 b2 b3).toNat =
      b0.toNat % 32 * 2 ^ 24 + b1.toNat * 2 ^ 16 + b2.toNat * 2 ^ 8 + b3.toNat := by
  simp only [idOfBytes, toNat_append_eq_mul_add, toNat_slice]
  omega

/-- The four sub-bytes of R66 stand for the identifier, the top three bits 0. -/
theorem toNat_idb (id : WireId) :
    (idb0 id ++ idb1 id ++ idb2 id ++ idb3 id).toNat = id.toNat := by
  have hid := id.isLt
  simp only [idb0, idb1, idb2, idb3, toNat_append_eq_mul_add, toNat_slice, BitVec.toNat_setWidth]
  omega

/-- An entry's value (R65): the identifier from bit 68 on, dlc at `[67:64]`, data at `[63:0]`. -/
theorem toNat_pack (w : WFrame) :
    (pack w).toNat = w.id.toNat * 2 ^ 68 + w.dlc.toNat * 2 ^ 64 + w.data.toNat := by
  simp only [pack, toNat_append_eq_mul_add _ w.data, toNat_append_eq_mul_add _ w.dlc, toNat_idb]
  omega

theorem toNat_unpack_id (e : Entry) :
    (unpack e).id.toNat = e.toNat / 2 ^ 92 % 32 * 2 ^ 24 + e.toNat / 2 ^ 84 % 256 * 2 ^ 16 +
      e.toNat / 2 ^ 76 % 256 * 2 ^ 8 + e.toNat / 2 ^ 68 % 256 := by
  simp only [unpack, toNat_idOfBytes, toNat_slice]
  omega

theorem toNat_unpack_dlc (e : Entry) : (unpack e).dlc.toNat = e.toNat / 2 ^ 64 % 16 :=
  toNat_slice 64 4 e

theorem toNat_unpack_data (e : Entry) : (unpack e).data.toNat = e.toNat % 2 ^ 64 := by
  rw [← Nat.div_one e.toNat]
  exact toNat_slice 0 64 e

/-- Wire frames with the same numbers in their fields are the same. -/
theorem WFrame.eq_of_toNat_eq {v w : WFrame} (hid : v.id.toNat = w.id.toNat)
    (hdlc : v.dlc.toNat = w.dlc.toNat) (hdata : v.data.toNat = w.data.toNat) : v = w := by
  cases v
  cases w
  simp_all [BitVec.toNat_inj]

/-- A frame stored and fetched is the frame (R65, R66). -/
theorem unpack_pack (w : WFrame) : unpack (pack w) = w := by
  have hdlc := w.dlc.isLt
  have hdata := w.data.isLt
  have hid := w.id.isLt
  apply WFrame.eq_of_toNat_eq
  · rw [toNat_unpack_id, toNat_pack]
    omega
  · rw [toNat_unpack_dlc, toNat_pack]
    omega
  · rw [toNat_unpack_data, toNat_pack]
    omega

/-- Bit `i` of the packed payload is bit `i % 8` of byte `i / 8`, 0 after the list (R64, R85). -/
theorem getLsbD_packData (bs : List Byte) {i : Nat} (hi : i < 64) :
    (packData bs).getLsbD i = (bs.getD (i / 8) 0).getLsbD (i % 8) := by
  induction bs generalizing i with
  | nil => simp [packData]
  | cons b bs ih =>
    by_cases hlow : i < 8
    · simp [packData, hi, hlow, Nat.div_eq_of_lt hlow, Nat.mod_eq_of_lt hlow]
    · have hdiv : i / 8 = (i - 8) / 8 + 1 := by omega
      have hmod : i % 8 = (i - 8) % 8 := by omega
      have hb : b.getLsbD i = false := BitVec.getLsbD_of_ge b i (by omega)
      have hrest := ih (show i - 8 < 64 by omega)
      rw [BitVec.getLsbD_eq_getElem (by omega)] at hrest
      simpa [packData, hi, hlow, hb, hdiv, hmod] using hrest

/-- The eight payload bytes give the data back (R64). -/
theorem packData_dataByte (data : BitVec 64) :
    packData ((List.range 8).map (dataByte data)) = data := by
  apply BitVec.eq_of_getLsbD_eq
  intro i hi
  have hbyte : i / 8 < 8 := by omega
  have hsplit : 8 * (i / 8) + i % 8 = i := by omega
  have hmod : i % 8 < 8 := by omega
  rw [getLsbD_packData _ hi]
  simp [hbyte, dataByte, hmod, hsplit]

/-- The bytes of a stored frame are read back as the frame. -/
theorem frameOfBytes_bytesOfFrame (w : WFrame) : frameOfBytes (bytesOfFrame w) = .ok w := by
  have hdlc : w.dlc.toNat % 256 < 16 := by omega
  have hdata := packData_dataByte w.data
  simp only [List.range, List.range.loop, List.map] at hdata
  simp [frameOfBytes, bytesOfFrame, hdlc, hdata, idOfBytes_idb]

/-- The fields of a frame's wire form are the frame (R95). -/
theorem fields_wire (f : Frame) : fields (wire f) = f := by
  simp [fields, wire, encodeFields]

end Sys2Proof.Machine
end

section
/-! SUPPORT. The decoder and the conditions of the rows: the rule and the row a condition selects, and that the answer
satisfies its condition (R78, R132, R133, R137, R141). -/

namespace Sys2Proof

open Sys2Proof.Machine

/-- Every message-type name, in the order of `Cfg.codes`. -/
def MsgType.all : List MsgType :=
  [.setReg, .getReg, .setBit, .clearBit, .toggleBit, .nodeUpgrade, .nodeReset, .discover,
   .regExternallyChanged, .regValue, .error, .nodeInfo]

theorem MsgType.mem_all (t : MsgType) : t ∈ MsgType.all := by
  cases t <;> decide

/-- The codes of a well-formed configuration tell the names apart (R70). -/
theorem typeCodeOf_injective {c : Cfg} (hc : c.wf = true) : Function.Injective (typeCodeOf c) := by
  simp only [Cfg.wf, Bool.and_eq_true, decide_eq_true_eq] at hc
  obtain ⟨⟨⟨⟨⟨hnodup, -⟩, -⟩, -⟩, -⟩, -⟩ := hc
  have hmap : c.codes = MsgType.all.map (typeCodeOf c) := rfl
  intro t u htu
  exact List.inj_on_of_nodup_map (hmap ▸ hnodup) t.mem_all u.mem_all htu

/-! ### The conditions as propositions -/

theorem Frame.wf_iff {f : Frame} : f.wf = true ↔ f.dlc ≤ maxDlc := decide_eq_true_iff

theorem isRule1_iff {c : Cfg} {self : Addr} {f : Frame} : isRule1 c self f = true ↔
    f.src ≠ bcast ∧ inBcast c f.typ = true ∧ (f.dst = self ∨ f.dst = bcast) := by
  simp [isRule1, srcOk, and_assoc]

theorem isRule2_iff {c : Cfg} {self : Addr} {f : Frame} : isRule2 c self f = true ↔
    f.src ≠ bcast ∧ isRule1 c self f = false ∧ inNode c f.typ = true ∧ f.dst = self := by
  simp [isRule2, srcOk, and_assoc]

theorem isRule3_iff {c : Cfg} {self : Addr} {f : Frame} : isRule3 c self f = true ↔
    f.src ≠ bcast ∧ isRule1 c self f = false ∧ isRule2 c self f = false ∧
    inRemote c f.typ = true := by
  simp [isRule3, srcOk, and_assoc]

theorem isRule4_iff {c : Cfg} {self : Addr} {f : Frame} : isRule4 c self f = true ↔
    f.src ≠ bcast ∧ isRule1 c self f = false ∧ isRule2 c self f = false ∧
    isRule3 c self f = false := by
  simp [isRule4, srcOk, and_assoc]

theorem isSetReg_iff {c : Cfg} {f : Frame} :
    isSetReg c f = true ↔ f.typ = typeCodeOf c .setReg ∧ 1 < f.dlc := by
  simp [isSetReg]

theorem isGetReg_iff {c : Cfg} {f : Frame} :
    isGetReg c f = true ↔ f.typ = typeCodeOf c .getReg ∧ f.dlc = 1 := by
  simp [isGetReg]

theorem isUpgrade_iff {c : Cfg} {f : Frame} :
    isUpgrade c f = true ↔ f.typ = typeCodeOf c .nodeUpgrade ∧ f.dlc = 0 := by
  simp [isUpgrade]

theorem isBitOp_iff {c : Cfg} {t : MsgType} {f : Frame} :
    isBitOp c t f = true ↔ f.typ = typeCodeOf c t ∧ f.dlc = 2 := by
  simp [isBitOp]

/-! ### The rule a frame takes -/

/-- The source check and the four rules leave no frame out (R133: rule 4 is the rest). -/
theorem rule_cases (c : Cfg) (self : Addr) (f : Frame) :
    f.src = bcast ∨ isRule1 c self f = true ∨ isRule2 c self f = true ∨ isRule3 c self f = true ∨
    isRule4 c self f = true := by
  by_contra h
  simp only [not_or, Bool.not_eq_true] at h
  obtain ⟨hsrc, h1, h2, h3, h4⟩ := h
  exact Bool.eq_false_iff.mp h4 (isRule4_iff.mpr ⟨hsrc, h1, h2, h3⟩)

theorem classify_of_srcBcast {c : Cfg} {self : Addr} {f : Frame} (h : f.src = bcast) :
    classify c self f = .rejectSrcBcast f := if_pos h

theorem classify_of_isRule1 {c : Cfg} {self : Addr} {f : Frame} (h : isRule1 c self f = true) :
    classify c self f = decodeRule1 c f := by
  obtain ⟨hsrc, hrule⟩ := isRule1_iff.mp h
  rw [classify, if_neg hsrc, if_pos hrule]

/-- Past the source check and rule 1 the decoder goes on with rule 2. -/
theorem classify_of_not_isRule1 {c : Cfg} {self : Addr} {f : Frame} (hsrc : f.src ≠ bcast)
    (h : isRule1 c self f = false) : classify c self f =
      if inNode c f.typ = true ∧ f.dst = self then decodeRule2 c f
      else if inRemote c f.typ = true then .remotePassThrough f else .noMatch f := by
  have hrule : ¬ (inBcast c f.typ = true ∧ (f.dst = self ∨ f.dst = bcast)) := fun hr =>
    Bool.eq_false_iff.mp h (isRule1_iff.mpr ⟨hsrc, hr⟩)
  rw [classify, if_neg hsrc, if_neg hrule]

theorem classify_of_isRule2 {c : Cfg} {self : Addr} {f : Frame} (h : isRule2 c self f = true) :
    classify c self f = decodeRule2 c f := by
  obtain ⟨hsrc, h1, hrule⟩ := isRule2_iff.mp h
  rw [classify_of_not_isRule1 hsrc h1, if_pos hrule]

/-- Past rule 2 the decoder goes on with rule 3. -/
theorem classify_of_not_isRule2 {c : Cfg} {self : Addr} {f : Frame} (hsrc : f.src ≠ bcast)
    (h1 : isRule1 c self f = false) (h2 : isRule2 c self f = false) : classify c self f =
      if inRemote c f.typ = true then .remotePassThrough f else .noMatch f := by
  have hrule : ¬ (inNode c f.typ = true ∧ f.dst = self) := fun hr =>
    Bool.eq_false_iff.mp h2 (isRule2_iff.mpr ⟨hsrc, h1, hr⟩)
  rw [classify_of_not_isRule1 hsrc h1, if_neg hrule]

theorem classify_of_isRule3 {c : Cfg} {self : Addr} {f : Frame} (h : isRule3 c self f = true) :
    classify c self f = .remotePassThrough f := by
  obtain ⟨hsrc, h1, h2, hrule⟩ := isRule3_iff.mp h
  rw [classify_of_not_isRule2 hsrc h1 h2, if_pos hrule]

theorem classify_of_isRule4 {c : Cfg} {self : Addr} {f : Frame} (h : isRule4 c self f = true) :
    classify c self f = .noMatch f := by
  obtain ⟨hsrc, h1, h2, h3⟩ := isRule4_iff.mp h
  have hrule : ¬ inRemote c f.typ = true := fun hr =>
    Bool.eq_false_iff.mp h3 (isRule3_iff.mpr ⟨hsrc, h1, h2, hr⟩)
  rw [classify_of_not_isRule2 hsrc h1 h2, if_neg hrule]

/-! ### The row of rule 2 a frame takes -/

theorem decodeRule2_of_isSetReg {c : Cfg} {f : Frame} (h : isSetReg c f = true) :
    decodeRule2 c f = decodeSetReg c f := if_pos (isSetReg_iff.mp h)

/-- GET_REG and SET_REG differ in the length they ask for. -/
theorem decodeRule2_of_isGetReg {c : Cfg} {f : Frame} (h : isGetReg c f = true) :
    decodeRule2 c f = decodeGetReg c f := by
  obtain ⟨htyp, hdlc⟩ := isGetReg_iff.mp h
  simp [decodeRule2, htyp, hdlc]

/-- NODE_UPGRADE alone asks for length 0. -/
theorem decodeRule2_of_isUpgrade {c : Cfg} {f : Frame} (h : isUpgrade c f = true) :
    decodeRule2 c f = .nodeUpgrade f := by
  obtain ⟨htyp, hdlc⟩ := isUpgrade_iff.mp h
  simp [decodeRule2, htyp, hdlc]

/-- A bit operation's length is one a SET_REG may have: its type code tells it apart. -/
theorem decodeRule2_of_isBitOp {c : Cfg} (hc : c.wf = true) {t : MsgType} {f : Frame}
    (ht : t ≠ .setReg) (h : isBitOp c t f = true) : decodeRule2 c f =
      if t = .setBit then .setBit f else if t = .clearBit then .clearBit f
      else if t = .toggleBit then .toggleBit f else .nodeInvalid f := by
  obtain ⟨htyp, hdlc⟩ := isBitOp_iff.mp h
  simp [decodeRule2, htyp, hdlc, (typeCodeOf_injective hc).eq_iff, ht]

/-- The frames of no row of rule 2 fall to R146. -/
theorem decodeRule2_of_no_row {c : Cfg} {f : Frame} (hset : isSetReg c f = false)
    (hget : isGetReg c f = false) (hup : isUpgrade c f = false)
    (hsb : isBitOp c .setBit f = false) (hcb : isBitOp c .clearBit f = false)
    (htb : isBitOp c .toggleBit f = false) : decodeRule2 c f = .nodeInvalid f := by
  simp only [decodeRule2, ← isSetReg_iff, ← isGetReg_iff, ← isUpgrade_iff, ← isBitOp_iff]
  simp [hset, hget, hup, hsb, hcb, htb]

/-! ### A well-formed row is the decoder's answer -/

/-- The decoder answers the row whose condition the frame satisfies. -/
theorem classify_of_wf {c : Cfg} {self : Addr} {f : Frame} {i : Instr} (hc : c.wf = true)
    (hi : i.frame? = some f) (hwf : i.wf c self = true) : classify c self f = i := by
  cases i <;> cases hi <;>
    simp only [Instr.wf, Bool.and_eq_true, Bool.not_eq_true', Bool.and_eq_false_iff, beq_iff_eq,
      beq_eq_false_iff_ne, bne_iff_ne, decide_eq_true_eq] at hwf
  case rejectSrcBcast => exact classify_of_srcBcast hwf.2
  case discover =>
    obtain ⟨⟨⟨-, hrule⟩, htyp⟩, hdlc⟩ := hwf
    simp [classify_of_isRule1 hrule, decodeRule1, htyp, hdlc]
  case nodeReset =>
    obtain ⟨⟨⟨-, hrule⟩, htyp⟩, hdlc⟩ := hwf
    simp [classify_of_isRule1 hrule, decodeRule1, htyp, hdlc, (typeCodeOf_injective hc).eq_iff]
  case bcastInvalid =>
    obtain ⟨⟨⟨-, hrule⟩, hdiscover⟩, hreset⟩ := hwf
    rw [classify_of_isRule1 hrule, decodeRule1, if_neg (not_and_or.mpr hdiscover),
      if_neg (not_and_or.mpr hreset)]
  case setReg =>
    obtain ⟨⟨⟨-, hrule⟩, hrow⟩, hidx⟩ := hwf
    rw [classify_of_isRule2 hrule, decodeRule2_of_isSetReg hrow, decodeSetReg, if_pos hidx]
  case setRegNodeId =>
    obtain ⟨⟨⟨⟨-, hrule⟩, hrow⟩, hidx⟩, hkind⟩ := hwf
    rw [classify_of_isRule2 hrule, decodeRule2_of_isSetReg hrow, decodeSetReg,
      if_neg (Nat.not_le.mpr hidx), if_pos hkind]
  case setRegReadOnly =>
    obtain ⟨⟨⟨⟨⟨-, hrule⟩, hrow⟩, hidx⟩, hnode⟩, hfree⟩ := hwf
    rw [classify_of_isRule2 hrule, decodeRule2_of_isSetReg hrow, decodeSetReg,
      if_neg (Nat.not_le.mpr hidx), if_neg hnode, if_neg hfree]
  case setRegUnassigned =>
    obtain ⟨⟨⟨⟨-, hrule⟩, hrow⟩, hidx⟩, hkind⟩ := hwf
    simp [classify_of_isRule2 hrule, decodeRule2_of_isSetReg hrow, decodeSetReg,
      Nat.not_le.mpr hidx, hkind]
  case getReg =>
    obtain ⟨⟨⟨-, hrule⟩, hrow⟩, hidx⟩ := hwf
    rw [classify_of_isRule2 hrule, decodeRule2_of_isGetReg hrow, decodeGetReg, if_pos hidx]
  case getRegStandard =>
    obtain ⟨⟨⟨⟨-, hrule⟩, hrow⟩, hidx⟩, hkind⟩ := hwf
    rw [classify_of_isRule2 hrule, decodeRule2_of_isGetReg hrow, decodeGetReg,
      if_neg (Nat.not_le.mpr hidx), if_neg hkind]
  case getRegUnassigned =>
    obtain ⟨⟨⟨⟨-, hrule⟩, hrow⟩, hidx⟩, hkind⟩ := hwf
    rw [classify_of_isRule2 hrule, decodeRule2_of_isGetReg hrow, decodeGetReg,
      if_neg (Nat.not_le.mpr hidx), if_pos hkind]
  case nodeUpgrade =>
    obtain ⟨⟨-, hrule⟩, hrow⟩ := hwf
    rw [classify_of_isRule2 hrule, decodeRule2_of_isUpgrade hrow]
  case setBit | clearBit | toggleBit =>
    obtain ⟨⟨-, hrule⟩, hrow⟩ := hwf
    exact (classify_of_isRule2 hrule).trans (decodeRule2_of_isBitOp hc (by decide) hrow)
  case nodeInvalid =>
    obtain ⟨⟨⟨⟨⟨⟨⟨-, hrule⟩, hset⟩, hget⟩, hup⟩, hsb⟩, hcb⟩, htb⟩ := hwf
    rw [classify_of_isRule2 hrule, decodeRule2_of_no_row hset hget hup hsb hcb htb]
  case remotePassThrough => exact classify_of_isRule3 hwf.2
  case noMatch => exact classify_of_isRule4 hwf.2

/-! ### The decoder's answer is a well-formed row -/

theorem decodeRule1_wf {c : Cfg} {self : Addr} {f : Frame} (hf : f.wf = true)
    (h : isRule1 c self f = true) : (decodeRule1 c f).wf c self = true := by
  unfold decodeRule1
  split_ifs with hdiscover hreset
  · simp [Instr.wf, hf, h, hdiscover]
  · simp [Instr.wf, hf, h, hreset]
  · simpa [Instr.wf, hf, h] using ⟨not_and_or.mp hdiscover, not_and_or.mp hreset⟩

theorem decodeSetReg_wf {c : Cfg} {self : Addr} {f : Frame} (hf : f.wf = true)
    (h : isRule2 c self f = true) (hrow : isSetReg c f = true) :
    (decodeSetReg c f).wf c self = true := by
  unfold decodeSetReg
  split_ifs with hidx hnode hfree
  · simp [Instr.wf, hf, h, hrow, hidx]
  · simpa [Instr.wf, hf, h, hrow, hnode] using hidx
  · simpa [Instr.wf, hf, h, hrow, hfree] using hidx
  · simpa [Instr.wf, hf, h, hrow, hnode, hfree] using hidx

theorem decodeGetReg_wf {c : Cfg} {self : Addr} {f : Frame} (hf : f.wf = true)
    (h : isRule2 c self f = true) (hrow : isGetReg c f = true) :
    (decodeGetReg c f).wf c self = true := by
  unfold decodeGetReg
  split_ifs with hidx hfree
  · simp [Instr.wf, hf, h, hrow, hidx]
  · simpa [Instr.wf, hf, h, hrow, hfree] using hidx
  · simpa [Instr.wf, hf, h, hrow, hfree] using hidx

theorem decodeRule2_wf {c : Cfg} {self : Addr} {f : Frame} (hf : f.wf = true)
    (h : isRule2 c self f = true) : (decodeRule2 c f).wf c self = true := by
  unfold decodeRule2
  simp only [← isSetReg_iff, ← isGetReg_iff, ← isUpgrade_iff, ← isBitOp_iff]
  split_ifs with hset hget hup hsb hcb htb
  · exact decodeSetReg_wf hf h hset
  · exact decodeGetReg_wf hf h hget
  · simp [Instr.wf, hf, h, hup]
  · simp [Instr.wf, hf, h, hsb]
  · simp [Instr.wf, hf, h, hcb]
  · simp [Instr.wf, hf, h, htb]
  · simp [Instr.wf, hf, h, hset, hget, hup, hsb, hcb, htb]

/-- The condition of the row the decoder answers holds (R78). -/
theorem classify_wf {c : Cfg} {self : Addr} {f : Frame} (hf : f.wf = true) :
    (classify c self f).wf c self = true := by
  obtain hsrc | h1 | h2 | h3 | h4 := rule_cases c self f
  · simp [classify_of_srcBcast hsrc, Instr.wf, hf, hsrc]
  · exact classify_of_isRule1 h1 ▸ decodeRule1_wf hf h1
  · exact classify_of_isRule2 h2 ▸ decodeRule2_wf hf h2
  · simp [classify_of_isRule3 h3, Instr.wf, hf, h3]
  · simp [classify_of_isRule4 h4, Instr.wf, hf, h4]

/-- The decoder answers a dispatch case of the frame it was given. -/
theorem classify_frame? (c : Cfg) (self : Addr) (f : Frame) :
    (classify c self f).frame? = some f := by
  unfold classify decodeRule1 decodeRule2 decodeSetReg decodeGetReg
  split_ifs <;> rfl

end Sys2Proof
end

section
/-! SUPPORT. Lines and tokens: each kind of token is read back (R83). -/

namespace Sys2Proof.Machine

/-- A field's value is read back at the field's width. -/
@[simp] theorem parseField_toNat {w : Nat} (v : BitVec w) : parseField w v.toNat = some v := by
  simp [parseField, v.isLt]

@[simp] theorem parseType_typeToken (t : TypeLit) : parseType (typeToken t) = some t := by
  cases t <;> simp [parseType, typeToken]

theorem parseBytes_of_le {bs : List Byte} (h : bs.length ≤ 8) : parseBytes bs = some bs := if_pos h

/-- A frame whose data list is short enough is read back from its tokens. -/
theorem parseFrame_frameTokens {f : FrameLit} (h : f.wf = true) :
    parseFrame (frameTokens f) = some f := by
  cases f with
  | byFields pri typ seq dst src dlc data =>
    simp [frameTokens, parseFrame, parseByFields, parseBytes_of_le (of_decide_eq_true h)]
  | raw id dlc data =>
    simp [frameTokens, parseFrame, parseRaw, parseBytes_of_le (of_decide_eq_true h)]

end Sys2Proof.Machine
end

section
/-! Settled statements: the encoding (30_encoding.md), its lines and tokens (R83) and the synchroniser under EXACT (R84). -/

namespace Sys2Proof.Machine

/-- Settles O6: the stored bytes give the wire frame back, its fields are the case's frame, and the decoder answers the
one row whose condition that frame satisfies. -/
theorem decodeEncodeAgree : Obligations.DecodeEncodeAgree := by
  intro c self i hc hframe hwf
  obtain ⟨f, hf⟩ := Option.isSome_iff_exists.mp hframe
  refine ⟨bytesOfFrame (wire f), by simp [encode, hf], rfl, ?_⟩
  simp [decodeBytes, frameOfBytes_bytesOfFrame, decodeFrame, fields_wire,
    classify_of_wf hc hf hwf]

/-- Settles O5, by the value of a packed entry and the values an entry is read as. -/
theorem entryLayoutAndUnpack : Obligations.EntryLayoutAndUnpack := by
  refine ⟨fun e => ⟨toNat_unpack_id e, toNat_unpack_dlc e, toNat_unpack_data e⟩, fun w => ?_⟩
  have hdlc := w.dlc.isLt
  have hdata := w.data.isLt
  simp only [BitVec.toNat_ushiftRight, Nat.shiftRight_eq_div_pow, toNat_pack]
  exact ⟨by omega, by omega, by omega, by omega, by omega, by omega, unpack_pack w⟩

/-- Settles O7, rule by rule of R133. -/
theorem decodedCaseIsWellFormed : Obligations.DecodedCaseIsWellFormed :=
  fun c self w _ hdlc => ⟨classify_wf (Frame.wf_iff.mpr hdlc), classify_frame? c self (fields w)⟩

/-- Settles O8: both instructions are the decoder's answer for the frame. -/
theorem rowsDoNotOverlap : Obligations.RowsDoNotOverlap :=
  fun _ _ _ _ _ hc hi hj hwfi hwfj =>
    (classify_of_wf hc hi hwfi).symm.trans (classify_of_wf hc hj hwfj)

/-- Settles O10, by the shape of the line: each token of a line is read back. -/
theorem notationReadBack : Obligations.NotationReadBack := by
  intro l h
  cases l with
  | init ans => cases ans <;> simp [lineTokens, parseLine]
  | rx f => simp [lineTokens, parseLine, parseFrame_frameTokens (show f.wf = true from h)]
  | submit f => simp [lineTokens, parseLine, parseFrame_frameTokens (show f.wf = true from h)]
  | breq t dst => simp [lineTokens, parseLine]
  | req t dst dlc data =>
    simp [lineTokens, parseLine, parseBytes_of_le (of_decide_eq_true h)]
  | poll | txdone | txdoneC | txdoneH | syncW | syncR | sync => rfl

/-- Settles O9, by evaluating the decoder on each word. -/
theorem writtenWordsDecode : Obligations.WrittenWordsDecode :=
  ⟨⟨fields { id := 0x1783FE40, dlc := 0, data := 0 }, by decide⟩,
   ⟨fields { id := 0x14104040, dlc := 3, data := 0xFE0109 }, by decide⟩,
   ⟨fields { id := 0x148C4040, dlc := 1, data := 0x09 }, by decide⟩,
   ⟨fields { id := 0x190C6040, dlc := 1, data := 0x01 }, by decide⟩⟩

/-- Settles O26: under EXACT the invariant holds each view equal to the cursor that the step copies (R110). -/
theorem syncIsNoOpUnderExact : Obligations.SyncIsNoOpUnderExact := by
  intro s hinv hexact hrun
  obtain ⟨hwr, hrd⟩ := hinv.exactViews hexact
  have copyWr : s = { s with rxWrV := s.rxWr } := congrArg (fun v => { s with rxWrV := v }) hwr
  have copyRd : s = { s with rxRdV := s.rxRd } := congrArg (fun v => { s with rxRdV := v }) hrd
  exact ⟨execSyncW_next.mpr ⟨hrun, copyWr⟩, execSyncR_next.mpr ⟨hrun, copyRd⟩⟩

end Sys2Proof.Machine
end

section
/-! SUPPORT. The identifier codec as numbers: masks, slices and the value of an identifier (R61, R90, R91), and the law
`encode(decode(id)) = id` (R92 (b)). -/

namespace Sys2Proof.Machine

/-- A number taken at width `n` is masked to its low `n` bits (R90). -/
theorem toNat_ofNat_eq_and (n x : Nat) : (BitVec.ofNat n x).toNat = x &&& (2 ^ n - 1) := by
  rw [BitVec.toNat_ofNat, Nat.and_two_pow_sub_one_eq_mod]

/-- A slice is a shift and a mask (R62). -/
theorem toNat_slice_eq_shift_and {n : Nat} (start len : Nat) (x : BitVec n) :
    (x.extractLsb' start len).toNat = (x.toNat >>> start) &&& (2 ^ len - 1) := by
  rw [BitVec.extractLsb'_toNat, Nat.and_two_pow_sub_one_eq_mod]

/-- An identifier is the or of its five masked and shifted inputs (R90). -/
theorem toNat_encodeId_eq_or (p t q d r : Nat) : (encodeId p t q d r).toNat =
    ((p &&& 0x1) <<< 28) ||| ((t &&& 0x1F) <<< 23) ||| ((q &&& 0x1F) <<< 18) |||
    ((d &&& 0x1FF) <<< 9) ||| (r &&& 0x1FF) := by
  simp only [encodeId, BitVec.toNat_append, toNat_ofNat_eq_and, Nat.shiftLeft_or_distrib,
    ← Nat.shiftLeft_add]
  simp only [Nat.reduceAdd, Nat.reducePow, Nat.reduceSub]

/-- An identifier's value, its five fields side by side (R61). -/
theorem toNat_encodeId (p t q d r : Nat) : (encodeId p t q d r).toNat =
    p % 2 * 2 ^ 28 + t % 32 * 2 ^ 23 + q % 32 * 2 ^ 18 + d % 512 * 2 ^ 9 + r % 512 := by
  simp only [encodeId, toNat_append_eq_mul_add, BitVec.toNat_ofNat]
  omega

/-- An identifier is made again of its five slices (R92 (b)). -/
@[simp] theorem encodeId_slices (id : WireId) :
    encodeId (idPrio id).toNat (idType id).toNat (idSeq id).toNat (idDst id).toNat
      (idSrc id).toNat = id := by
  apply BitVec.eq_of_toNat_eq
  have hid := id.isLt
  rw [toNat_encodeId]
  simp only [idPrio, idType, idSeq, idDst, idSrc, toNat_slice]
  omega

/-- The wire form of a frame's fields is the frame (R95). -/
theorem wire_fields (w : WFrame) : wire (fields w) = w := by
  simp [wire, fields, encodeFields]

end Sys2Proof.Machine
end

section
/-! Settled statements: the identifier codec, the frame helpers and BREQ (40_codec.md). -/

namespace Sys2Proof.Machine

/-- Settles O3: a decoded field is its input at the field's width, and an identifier is made again of its slices. -/
theorem codecRoundTrips : Obligations.CodecRoundTrips := by
  refine ⟨fun p t q d r => ?_, encodeId_slices⟩
  rw [idPrio_encodeId, idType_encodeId, idSeq_encodeId, idDst_encodeId, idSrc_encodeId]
  exact ⟨BitVec.toNat_ofNat p 1, BitVec.toNat_ofNat t 5, BitVec.toNat_ofNat q 5,
    BitVec.toNat_ofNat d 9, BitVec.toNat_ofNat r 9⟩

/-- Settles O1, by the value of the concatenation. -/
theorem encodeIsShiftAndMask : Obligations.EncodeIsShiftAndMask :=
  fun p t q d r _ => ⟨rfl, toNat_encodeId_eq_or p t q d r⟩

/-- Settles O2: each field of the answer is a slice. -/
theorem decodeIsFieldSlices : Obligations.DecodeIsFieldSlices :=
  fun id _ => ⟨_, rfl, toNat_slice_eq_shift_and 28 1 id, toNat_slice_eq_shift_and 23 5 id,
    toNat_slice_eq_shift_and 18 5 id, toNat_slice_eq_shift_and 9 9 id,
    toNat_slice_eq_shift_and 0 9 id⟩

/-- Settles O4, by the codec's laws in both directions. -/
theorem wireAndFieldsInverse : Obligations.WireAndFieldsInverse :=
  ⟨fun _ => rfl, fun _ => rfl, wire_fields, fields_wire⟩

/-- Settles O32, by what waits at the port: another request stops the model, else BREQ is accepted. -/
theorem buildRequestUsesNextNumber : Obligations.BuildRequestUsesNextNumber := by
  intro s t d hrun hacc
  refine ⟨fun a hraised hother => ?changed, fun hsame => ?accepted⟩
  case changed => exact request_changed hrun hraised hother
  case accepted =>
    have hnext : (s.seq + 1).toNat = (s.seq.toNat + 1) % 32 := BitVec.toNat_add s.seq 1
    exact ⟨s.seq + 1, hnext, request_accepted hrun hacc rfl hsame⟩

end Sys2Proof.Machine
end

section
/-! SUPPORT. The cursors of a FIFO (R100): how the count moves with them, and a walk from one cursor up to another. -/

namespace Sys2Proof.Machine

theorem fifoCount_lt {n : Nat} (wr rd : BitVec n) : fifoCount wr rd < 2 ^ n := (wr - rd).isLt

/-- `inc(x) = (x + 1) mod C` on the cursor's value (R100). -/
theorem toNat_cursorInc {n : Nat} (x : BitVec n) : (cursorInc x).toNat = (x.toNat + 1) % 2 ^ n := by
  simp [cursorInc]

/-- `count(wr, rd) = (wr - rd) mod C` on the cursors' values (R100). -/
theorem fifoCount_eq_mod {n : Nat} (wr rd : BitVec n) :
    fifoCount wr rd = (wr.toNat + 2 ^ n - rd.toNat) % 2 ^ n := by
  have hrd := rd.isLt
  rw [fifoCount, BitVec.toNat_sub]
  congr 1
  omega

/-- The FIFO is empty where nothing is unread (R100). -/
theorem fifoCount_eq_zero {n : Nat} {wr rd : BitVec n} : fifoCount wr rd = 0 ↔ wr = rd := by
  have hzero : fifoCount wr rd = 0 ↔ wr - rd = 0 := (BitVec.toNat_eq (y := 0)).symm
  rw [hzero, sub_eq_zero]

/-- The write cursor's advance is the count's, modulo the capacity. -/
theorem fifoCount_cursorInc_mod {n : Nat} (wr rd : BitVec n) :
    fifoCount (cursorInc wr) rd = (fifoCount wr rd + 1) % 2 ^ n := by
  have hsub : cursorInc wr - rd = cursorInc (wr - rd) := add_sub_right_comm wr 1 rd
  rw [fifoCount, hsub, toNat_cursorInc, fifoCount]

/-- One slot is always kept empty: a full FIFO has `C - 1` entries unread (R100). -/
theorem cursorInc_eq_iff {n : Nat} {wr rd : BitVec n} :
    cursorInc wr = rd ↔ fifoCount wr rd = 2 ^ n - 1 := by
  have hlt := fifoCount_lt wr rd
  rw [← fifoCount_eq_zero, fifoCount_cursorInc_mod]
  constructor
  · intro hzero
    have hdvd := Nat.le_of_dvd (by omega) (Nat.dvd_of_mod_eq_zero hzero)
    omega
  · intro hcount
    rw [hcount, Nat.sub_add_cancel (by omega), Nat.mod_self]

/-- A push that finds room makes one entry more unread. -/
theorem fifoCount_inc_wr {n : Nat} {wr rd : BitVec n} (h : cursorInc wr ≠ rd) :
    fifoCount (cursorInc wr) rd = fifoCount wr rd + 1 := by
  have hlt := fifoCount_lt wr rd
  have hfull := mt cursorInc_eq_iff.mpr h
  rw [fifoCount_cursorInc_mod, Nat.mod_eq_of_lt (by omega)]

/-- A pop that finds an entry leaves one less unread. -/
theorem fifoCount_inc_rd {n : Nat} {wr rd : BitVec n} (h : rd ≠ wr) :
    fifoCount wr rd = fifoCount wr (cursorInc rd) + 1 := by
  have hsub : cursorInc wr - cursorInc rd = wr - rd := add_sub_add_right_eq_sub wr rd 1
  have hne : cursorInc wr ≠ cursorInc rd := fun heq => h (add_right_cancel heq).symm
  rw [← fifoCount_inc_wr hne, fifoCount, fifoCount, hsub]

/-- Counts of adjacent stretches add up within one turn. -/
theorem fifoCount_add {n : Nat} {a b c : BitVec n} (h : fifoCount a b + fifoCount b c < 2 ^ n) :
    fifoCount a c = fifoCount a b + fifoCount b c := by
  have hsum : a - c = (a - b) + (b - c) := (sub_add_sub_cancel a b c).symm
  rw [fifoCount, hsum, BitVec.toNat_add]
  exact Nat.mod_eq_of_lt h

/-- What holds at `wr` and, at each cursor behind it, whenever it holds one slot further, holds at every cursor. -/
theorem cursor_walk {n : Nat} {wr : BitVec n} {P : BitVec n → Prop} (arrived : P wr)
    (behind : ∀ rd, rd ≠ wr → P (cursorInc rd) → P rd) (rd : BitVec n) : P rd := by
  induction hk : fifoCount wr rd generalizing rd with
  | zero => exact fifoCount_eq_zero.mp hk ▸ arrived
  | succ k ih =>
    have hne : rd ≠ wr := by
      rintro rfl
      simp [fifoCount_self] at hk
    have hcount := fifoCount_inc_rd hne
    exact behind rd hne (ih _ (by omega))

end Sys2Proof.Machine
end

section
/-! SUPPORT. A FIFO's storage between its cursors: a push appends to the queue, a pop takes its oldest entry, and both keep
the storage's form (R24, R42, R43, R114). -/

namespace Sys2Proof.Machine

open Safety

/-- The storage of a FIFO of `2 ^ n` slots is in canonical form, every unread slot is written, and every stored length
count is in range. -/
structure FifoOk {n : Nat} (m : Memory) (wr rd : BitVec n) : Prop where
  form : Memory.wf (2 ^ n) m = true
  written : written m rd (fifoCount wr rd) = true
  dlcs : dlcsOk m = true

theorem dlcsOk_iff {m : Memory} : dlcsOk m = true ↔ ∀ p ∈ m, (unpack p.2).dlc ≤ maxDlc := by
  simp [dlcsOk]

/-- The length count of a packed frame, clamped before, is in range (R80). -/
theorem unpack_pack_clampFrame_dlc (w : WFrame) : (unpack (pack (clampFrame w))).dlc ≤ maxDlc := by
  rw [unpack_pack]
  exact clampDlc_le w.dlc

/-- The queue of a FIFO that is not empty: the entry at the read cursor, then the rest. -/
theorem entriesFrom_of_ne {n : Nat} (free : Nat → Entry) (m : Memory) {wr rd : BitVec n}
    (h : rd ≠ wr) : entriesFrom free m rd (fifoCount wr rd) =
      Memory.read free m rd.toNat ::
        entriesFrom free m (cursorInc rd) (fifoCount wr (cursorInc rd)) := by
  rw [fifoCount_inc_rd h, entriesFrom]

theorem written_of_ne {n : Nat} (m : Memory) {wr rd : BitVec n} (h : rd ≠ wr) :
    written m rd (fifoCount wr rd) =
      ((Memory.find m rd.toNat).isSome &&
        written m (cursorInc rd) (fifoCount wr (cursorInc rd))) := by
  rw [fifoCount_inc_rd h, written]

/-- An entry stored at the write cursor comes after the unread ones. -/
theorem entriesFrom_write {n : Nat} (free : Nat → Entry) (m : Memory) (wr : BitVec n) (e : Entry)
    (rd : BitVec n) : entriesFrom free (Memory.write m wr.toNat e) rd (fifoCount wr rd + 1) =
      entriesFrom free m rd (fifoCount wr rd) ++ [e] := by
  induction rd using cursor_walk (wr := wr) with
  | arrived => simp [fifoCount_self, entriesFrom]
  | behind rd hne ih =>
    have hslot : rd.toNat ≠ wr.toNat := mt BitVec.eq_of_toNat_eq hne
    rw [entriesFrom_of_ne free m hne, entriesFrom, Memory.read_write_other free m e hslot,
      fifoCount_inc_rd hne, ih, List.cons_append]

/-- With the write cursor's slot written one slot more is. -/
theorem written_write {n : Nat} (m : Memory) (wr : BitVec n) (e : Entry) (rd : BitVec n) :
    written (Memory.write m wr.toNat e) rd (fifoCount wr rd + 1) =
      written m rd (fifoCount wr rd) := by
  induction rd using cursor_walk (wr := wr) with
  | arrived => simp [fifoCount_self, written]
  | behind rd hne ih =>
    have hslot : rd.toNat ≠ wr.toNat := mt BitVec.eq_of_toNat_eq hne
    rw [written_of_ne m hne, written, Memory.find_write_other m e hslot, fifoCount_inc_rd hne, ih]

/-- A push that finds room keeps the storage's form (R103). -/
theorem FifoOk.push {n : Nat} {m : Memory} {wr rd : BitVec n} {e : Entry} (h : FifoOk m wr rd)
    (hroom : cursorInc wr ≠ rd) (he : (unpack e).dlc ≤ maxDlc) :
    FifoOk (Memory.write m wr.toNat e) (cursorInc wr) rd where
  form := Memory.wf_write e h.form wr.isLt
  written := by rw [fifoCount_inc_wr hroom, written_write, h.written]
  dlcs := dlcsOk_iff.mpr fun p hp => by
    rcases Memory.mem_write hp with rfl | hp
    · exact he
    · exact dlcsOk_iff.mp h.dlcs p hp

/-- A pop that finds an entry keeps the storage's form (R104). -/
theorem FifoOk.pop {n : Nat} {m : Memory} {wr rd : BitVec n} (h : FifoOk m wr rd) (hne : rd ≠ wr) :
    FifoOk m wr (cursorInc rd) where
  form := h.form
  written := by
    have hw := h.written
    rw [written_of_ne m hne, Bool.and_eq_true] at hw
    obtain ⟨-, hrest⟩ := hw
    exact hrest
  dlcs := h.dlcs

/-- The entry a pop reads was stored, so its length count is in range. -/
theorem FifoOk.read_dlc {n : Nat} {m : Memory} {wr rd : BitVec n} (free : Nat → Entry)
    (h : FifoOk m wr rd) (hne : rd ≠ wr) :
    (unpack (Memory.read free m rd.toNat)).dlc ≤ maxDlc := by
  have hw := h.written
  rw [written_of_ne m hne, Bool.and_eq_true] at hw
  obtain ⟨hslot, -⟩ := hw
  obtain ⟨e, he⟩ := Option.isSome_iff_exists.mp hslot
  rw [Memory.read, he, Option.getD_some]
  exact dlcsOk_iff.mp h.dlcs (rd.toNat, e) (Memory.mem_of_find he)

end Sys2Proof.Machine
end

section
/-! SUPPORT. What the invariant says of a state's FIFOs and of its dispatcher. -/

namespace Sys2Proof.Safety

open Machine

variable {s : State}

theorem Inv.rxFifo (h : Inv s) : FifoOk s.rxMem s.rxWr s.rxRd := ⟨h.rxForm, h.rxWritten, h.rxDlcs⟩

theorem Inv.txFifo (h : Inv s) : FifoOk s.txMem s.txWr s.txRd := ⟨h.txForm, h.txWritten, h.txDlcs⟩

/-- The unread entries are those the SYS domain does not see yet and those it sees (R51). -/
theorem Inv.fifoCount_rx (h : Inv s) :
    fifoCount s.rxWr s.rxRd = fifoCount s.rxWr s.rxWrV + fifoCount s.rxWrV s.rxRd := by
  have hlt := fifoCount_lt s.rxWr s.rxRdV
  have horder := h.viewOrder
  exact fifoCount_add (by omega)

/-- An entry the SYS domain sees is there (R58 item 2). -/
theorem Inv.rxRd_ne_wr (h : Inv s) (hseen : s.rxRd ≠ s.rxWrV) : s.rxRd ≠ s.rxWr := by
  intro heq
  have hcount := h.fifoCount_rx
  rw [fifoCount_eq_zero.mpr heq.symm] at hcount
  exact hseen (fifoCount_eq_zero.mp (by omega)).symm

/-- A FIFO that is not full as the BUS side sees it is not full (R58 item 2). -/
theorem Inv.rx_room (h : Inv s) (hroom : cursorInc s.rxWr ≠ s.rxRdV) :
    cursorInc s.rxWr ≠ s.rxRd := by
  have hlt := fifoCount_lt s.rxWr s.rxRdV
  have horder := h.viewOrder
  have hcount := h.fifoCount_rx
  rw [ne_eq, cursorInc_eq_iff] at hroom ⊢
  omega

/-- Under `EXACT` a step that moves no cursor finds the view equal to it (R110). -/
theorem Inv.publishWr_eq (h : Inv s) : publishWr s = s := by
  have hview : (if s.cfg.cdcView = .exact then s.rxWr else s.rxWrV) = s.rxWrV := by
    split
    case isTrue hexact => exact (h.exactViews hexact).1.symm
    case isFalse => rfl
  exact congrArg (fun v => { s with rxWrV := v }) hview

theorem Inv.publishRd_eq (h : Inv s) : publishRd s = s := by
  have hview : (if s.cfg.cdcView = .exact then s.rxRd else s.rxRdV) = s.rxRdV := by
    split
    case isTrue hexact => exact (h.exactViews hexact).2.symm
    case isFalse => rfl
  exact congrArg (fun v => { s with rxRdV := v }) hview

/-- A FIFO that is not full as the BUS side sees it has room ahead of the SYS view of its write cursor. -/
theorem Inv.wrV_room (h : Inv s) (hroom : cursorInc s.rxWr ≠ s.rxRdV) :
    cursorInc s.rxWr ≠ s.rxWrV := by
  have hlt := fifoCount_lt s.rxWr s.rxRdV
  have horder := h.viewOrder
  rw [ne_eq, cursorInc_eq_iff] at hroom ⊢
  omega

/-- No response is pending outside RESPOND. -/
theorem Inv.pend_eq_none (h : Inv s) (hfsm : s.fsm ≠ .respond) : s.pend = none := by
  rw [← Option.not_isSome_iff_eq_none, ← h.respondPend]
  exact hfsm

/-- A poll is in progress on a ready block alone (R194). -/
theorem Inv.ready_of_fsm (h : Inv s) (hfsm : s.fsm ≠ .idle) : s.ready = true := by
  by_contra hready
  obtain ⟨hidle, -, -, -⟩ := h.notReady (Bool.not_eq_true _ ▸ hready)
  exact hfsm hidle

end Sys2Proof.Safety
end

section
/-! SUPPORT. The invariant `Inv` under each update of the state: every lemma names the clauses the update bears on, and the
others carry over. -/

namespace Sys2Proof.Machine

open Safety

variable {s : State}

/-! ### The TX FIFO and the channel -/

/-- A frame is started on the free channel (R111). -/
theorem inv_startTx_free (h : Inv s) (hready : s.ready = true) (hfree : s.txInflight = false)
    {w : WFrame} (hw : w.dlc ≤ maxDlc) : Inv { startTx w s with txInflight := true } :=
  have hpending : s.txdonePending = false := by
    by_contra hp
    exact absurd (h.pendingInflight (by simpa using hp)) (by simp [hfree])
  { h with
    pendingInflight := fun _ => rfl
    idleEmpty := nofun
    inflightIff := rfl
    oneOutstanding := hpending
    sendingDlc := decide_eq_true hw
    notReady := fun hno => nomatch hready.symm.trans hno }

/-- A frame is queued (R111). -/
theorem inv_queueTx (h : Inv s) (hbusy : s.txInflight = true) (hroom : cursorInc s.txWr ≠ s.txRd)
    (w : WFrame) : Inv { s with
      txMem := Memory.write s.txMem s.txWr.toNat (pack (clampFrame w))
      txWr := cursorInc s.txWr } :=
  have hfifo := h.txFifo.push hroom (unpack_pack_clampFrame_dlc w)
  { h with
    idleEmpty := fun hfree => nomatch hbusy.symm.trans hfree
    txForm := hfifo.form
    txWritten := hfifo.written
    txDlcs := hfifo.dlcs }

/-- The transmit path of a ready block (R111). -/
theorem inv_txPath (h : Inv s) (hready : s.ready = true) (w : WFrame) : Inv (txPath w s).2 := by
  obtain ⟨hfree, hp⟩ | ⟨hbusy, hroom, hp⟩ | ⟨-, -, hp⟩ := txPath_cases w s <;> rw [hp]
  · exact inv_startTx_free h hready hfree (clampDlc_le w.dlc)
  · exact inv_queueTx h hbusy hroom w
  · exact h

/-- The channel is freed after the last frame (R113). -/
theorem inv_freeTx (h : Inv s) (hpending : s.txdonePending = true) (hempty : s.txRd = s.txWr) :
    Inv { s with txdonePending := false, txInflight := false } :=
  have hsending : s.sending.isSome = false := by simpa [hpending] using h.oneOutstanding
  { h with
    pendingInflight := nofun
    idleEmpty := fun _ => hempty.symm
    inflightIff := by simp [hsending]
    oneOutstanding := Bool.and_false _
    notReady := fun hno =>
      let ⟨hidle, _, haddr, hseq⟩ := h.notReady hno
      ⟨hidle, rfl, haddr, hseq⟩ }

/-- The oldest queued frame is started (R113). -/
theorem inv_startNext (h : Inv s) (hpending : s.txdonePending = true) (hne : s.txRd ≠ s.txWr) :
    Inv (startTx (unpack (Memory.read Config.freeTxSlot s.txMem s.txRd.toNat))
      { s with txdonePending := false, txRd := cursorInc s.txRd }) :=
  have hfifo := h.txFifo.pop hne
  have hbusy : s.txInflight = true := h.pendingInflight hpending
  { h with
    pendingInflight := nofun
    idleEmpty := fun hfree => nomatch hbusy.symm.trans hfree
    inflightIff := hbusy
    oneOutstanding := rfl
    txForm := hfifo.form
    txWritten := hfifo.written
    txDlcs := hfifo.dlcs
    sendingDlc := decide_eq_true (h.txFifo.read_dlc _ hne) }

/-- TXDONE.H (R113). -/
theorem inv_completeTx (h : Inv s) (hpending : s.txdonePending = true) : Inv (completeTx s) := by
  obtain ⟨hempty, hc⟩ | ⟨hne, hc⟩ := completeTx_cases s <;> rw [hc]
  · exact inv_freeTx h hpending hempty
  · exact inv_startNext h hpending hne

/-- TXDONE.C (R183). -/
theorem inv_completed (h : Inv s) {w : WFrame} (hsending : s.sending = some w) :
    Inv { s with sending := none, txdonePending := true } :=
  have hbusy : s.txInflight = true := by simpa [hsending] using h.inflightIff
  { h with
    pendingInflight := fun _ => hbusy
    inflightIff := hbusy
    oneOutstanding := rfl
    sendingDlc := rfl }

/-! ### The RX FIFO and its views -/

/-- SYNC.W (R108). -/
theorem inv_syncWr (h : Inv s) : Inv { s with rxWrV := s.rxWr } :=
  { h with
    viewOrder := by
      have horder := h.viewOrder
      have hcount := h.fifoCount_rx
      simp only [fifoCount_self]
      omega
    exactViews := fun hexact => ⟨rfl, (h.exactViews hexact).2⟩ }

/-- SYNC.R (R109). -/
theorem inv_syncRd (h : Inv s) : Inv { s with rxRdV := s.rxRd } :=
  { h with
    viewOrder := by
      have hcount := h.fifoCount_rx
      simp only [fifoCount_self]
      omega
    exactViews := fun hexact => ⟨(h.exactViews hexact).1, rfl⟩ }

/-- The entry is stored and the write cursor advances, under `EXACT` with its view (R105). -/
theorem inv_storeRx (h : Inv s) (hroom : cursorInc s.rxWr ≠ s.rxRdV) {e : Entry}
    (he : (unpack e).dlc ≤ maxDlc) : Inv (publishWr
      { s with rxMem := Memory.write s.rxMem s.rxWr.toNat e, rxWr := cursorInc s.rxWr }) :=
  have hfifo := h.rxFifo.push (h.rx_room hroom) he
  { h with
    viewOrder := by
      have horder := h.viewOrder
      simp only [publishWr_rxWr, publishWr_rxRdV, publishWr_rxWrV, publishWr_rxRd]
      split
      case isTrue hexact =>
        obtain ⟨-, hrd⟩ := h.exactViews hexact
        simp [hrd, fifoCount_self]
      case isFalse =>
        have hahead := h.wrV_room hroom
        rw [fifoCount_inc_wr hroom, fifoCount_inc_wr hahead]
        omega
    exactViews := fun hexact => ⟨if_pos hexact, (h.exactViews hexact).2⟩
    rxForm := hfifo.form
    rxWritten := hfifo.written
    rxDlcs := hfifo.dlcs }

/-- RX (R105). -/
theorem inv_rxPush (h : Inv s) (w : WFrame) : Inv (rxPush (clampFrame w) s) := by
  obtain ⟨-, hp⟩ | ⟨hroom, hp⟩ := rxPush_cases (clampFrame w) s <;> rw [hp]
  · exact h.publishWr_eq.symm ▸ h
  · exact inv_storeRx h hroom (unpack_pack_clampFrame_dlc w)

/-- The oldest entry seen is taken into dispatch (R131). -/
theorem inv_dispatchNext (h : Inv s) (hidle : s.fsm = .idle) (hready : s.ready = true)
    (hreq : s.pollReq = .taken ()) (hseen : s.rxRd ≠ s.rxWrV) :
    Inv { publishRd { s with rxRd := cursorInc s.rxRd } with
      cur := unpack (Memory.read Config.freeRxSlot s.rxMem s.rxRd.toNat)
      pend := none
      fsm := .dispatch } :=
  have hfifo := h.rxFifo.pop (h.rxRd_ne_wr hseen)
  { h with
    viewOrder := by
      have horder := h.viewOrder
      simp only [publishRd_rxWr, publishRd_rxRdV, publishRd_rxWrV, publishRd_rxRd]
      rw [fifoCount_inc_rd hseen] at horder
      split
      case isTrue hexact =>
        obtain ⟨hwr, -⟩ := h.exactViews hexact
        simp [hwr, fifoCount_self]
      case isFalse =>
        have hroom : cursorInc s.rxRd ≠ s.rxRdV := by
          have hlt := fifoCount_lt s.rxWr s.rxRdV
          rw [ne_eq, cursorInc_eq_iff]
          omega
        rw [fifoCount_inc_wr hroom]
        omega
    exactViews := fun hexact => ⟨(h.exactViews hexact).1, if_pos hexact⟩
    rxWritten := hfifo.written
    curDlc := h.rxFifo.read_dlc _ (h.rxRd_ne_wr hseen)
    respondPend := ⟨nofun, nofun⟩
    pollHeld := fun _ => hreq
    respondHandled := nofun
    terminalHalt := ⟨nofun, fun hhalt => absurd (h.terminalHalt.mpr hhalt) (by simp [hidle])⟩
    notReady := fun hno => nomatch hready.symm.trans hno }

/-- The fetch of an accepted POLL (R131). -/
theorem inv_fetch (h : Inv s) (hidle : s.fsm = .idle) (hready : s.ready = true)
    (hreq : s.pollReq = .taken ()) : Inv (fetch s) := by
  obtain ⟨-, hf⟩ | ⟨hseen, hf⟩ := fetch_cases s <;> rw [hf]
  · rw [h.publishRd_eq]
    exact { h with }
  · exact inv_dispatchNext h hidle hready hreq hseen

/-! ### The dispatcher, the registers and the request ports -/

/-- The poll ends, and no response is pending (R132, R151). -/
theorem inv_endPoll (h : Inv s) (hrun : s.halt = .run) (hready : s.ready = true)
    (hist : List Event) : Inv { s with hist := hist, pend := none, fsm := .idle } :=
  { h with
    respondPend := ⟨nofun, nofun⟩
    pollHeld := nofun
    respondHandled := nofun
    terminalHalt := ⟨nofun, absurd hrun⟩
    notReady := fun hno => nomatch hready.symm.trans hno }

theorem inv_finishPoll (h : Inv s) (hrun : s.halt = .run) (hfsm : s.fsm = .dispatch)
    (r : PollResult) (w : WFrame) : Inv (finishPoll r w s) := by
  have hpend : s.pend = none := h.pend_eq_none (by simp [hfsm])
  have hready : s.ready = true := h.ready_of_fsm (by simp [hfsm])
  have hself : { s with pend := none } = s := hpend ▸ rfl
  rw [← hself]
  exact inv_endPoll h hrun hready _

theorem inv_respond (h : Inv s) (hrun : s.halt = .run) (hfsm : s.fsm = .dispatch) (typ : MsgType)
    (payload : List Byte) (f : Frame) : Inv (respond typ payload f s) :=
  have hready : s.ready = true := h.ready_of_fsm (by simp [hfsm])
  { h with
    respondPend := ⟨fun _ => rfl, fun _ => rfl⟩
    pollHeld := fun _ => h.pollHeld (.inl hfsm)
    respondHandled := fun _ => rfl
    terminalHalt := ⟨nofun, absurd hrun⟩
    notReady := fun hno => nomatch hready.symm.trans hno }

theorem inv_storeNodeAddr (h : Inv s) (hready : s.ready = true) {v : Addr} (hv : v ≠ bcast) :
    Inv (storeNodeAddr v s) :=
  { h with
    addrLegal := hv
    notReady := fun hno => nomatch hready.symm.trans hno }

theorem inv_trigger (h : Inv s) (hfsm : s.fsm = .dispatch) {halt : Halt} (hhalt : halt ≠ .run)
    (e : Event) : Inv (trigger halt e s) :=
  have hpend : s.pend = none := h.pend_eq_none (by simp [hfsm])
  have hready : s.ready = true := h.ready_of_fsm (by simp [hfsm])
  { h with
    respondPend := ⟨nofun, fun hp => absurd hp (by simp [hpend])⟩
    pollHeld := nofun
    respondHandled := nofun
    terminalHalt := ⟨fun _ => hhalt, fun _ => rfl⟩
    notReady := fun hno => nomatch hready.symm.trans hno }

theorem inv_buildRequest (h : Inv s) (hready : s.ready = true) (typ : TypeCode) (dst : Addr) :
    Inv (buildRequest typ dst s) :=
  { h with notReady := fun hno => nomatch hready.symm.trans hno }

/-- The port `poll_req` may change where it stays taken for a poll in progress (R28). -/
theorem inv_setPollReq (h : Inv s) {l : ReqLine Unit}
    (hl : s.fsm = .dispatch ∨ s.fsm = .respond → l = .taken ()) : Inv (setPollReq l s) :=
  { h with pollHeld := hl }

/-- The RESPOND step (R151). -/
theorem inv_sendResponse (h : Inv s) (hrun : s.halt = .run) (hready : s.ready = true) (w : WFrame) :
    Inv (sendResponse w s) := by
  have hhalt : (txPath w s).2.halt = s.halt := (txPath_keepsLevels w s).halt
  have hkept : (txPath w s).2.ready = s.ready := (submitFrame_keepsRegisters w s).ready
  exact inv_endPoll (inv_txPath h hready w) (hhalt.trans hrun) (hkept.trans hready) _

end Sys2Proof.Machine
end

section
/-! SUPPORT. The invariant under every operation, every move and every step. -/

namespace Sys2Proof.Machine

open Safety

variable {s t : State}

/-- The fetch of a POLL the block accepts (R131). -/
theorem inv_fetched (h : Inv s) (hacc : acceptsRequests s = true) :
    Inv (fetch (setPollReq (.taken ()) s)) := by
  obtain ⟨hready, hidle, -⟩ := acceptsRequests_iff.mp hacc
  exact inv_fetch (inv_setPollReq h fun _ => rfl) hidle hready rfl

/-- A poll in progress is owed its acknowledge (R19). -/
theorem poll_unanswered (hfsm : s.fsm = .dispatch ∨ s.fsm = .respond) : pollAnswered s = false := by
  rcases hfsm with hfsm | hfsm <;> simp [pollAnswered, hfsm]

/-- A POLL presented while one is in progress is that poll (R200). -/
theorem inv_pollWaits (h : Inv s) {l : ReqLine Unit}
    (hl : raiseLine s.pollReq (pollAnswered s) () = some l) : Inv (setPollReq l s) := by
  refine inv_setPollReq h fun hfsm => ?_
  simpa [h.pollHeld hfsm, poll_unanswered hfsm, raiseLine] using hl.symm

/-- A level on `poll_req` may be lowered once the poll in progress is acknowledged (R28). -/
theorem inv_drivePoll (h : Inv s) {level : Option Unit}
    (hnext : driveRequest s.pollReq (pollAnswered s) setPollReq level s = .next t) : Inv t := by
  obtain ⟨l, rfl, ⟨_, -, hl⟩ | ⟨-, -, hl⟩⟩ := driveRequest_next hnext
  · exact inv_pollWaits h hl
  · refine inv_setPollReq h fun hfsm => ?_
    have hans := poll_unanswered hfsm
    have hrun : s.halt = .run := by
      by_contra hhalt
      rcases hfsm with hfsm | hfsm <;> simp [h.terminalHalt.mpr hhalt] at hfsm
    simp [h.pollHeld hfsm, hans, haltedLevel, hrun, lowerLine] at hl

/-- INIT (R192, R193). -/
theorem inv_loaded (h : Inv s) (ans : Option Addr) :
    Inv { s with hist := s.hist ++ [.persistLoadReq], nodeAddr := normAddr ans, ready := true } :=
  { h with
    addrLegal := normAddr_ne_bcast ans
    notReady := nofun }

/-- Every effect of an operation keeps the invariant. -/
theorem ExecEffect.inv {i : Instr} (he : ExecEffect s i t) (h : Inv s) : Inv t := by
  cases he with
  | pollEnded _ hrun hfsm r w => exact inv_finishPoll h hrun hfsm r w
  | responded _ hrun hfsm typ payload => exact inv_respond h hrun hfsm typ payload _
  | addrStored _ hrun hfsm _ hok =>
    obtain ⟨-, hbcast⟩ := addrRejected_eq_false.mp hok
    have hready : s.ready = true := h.ready_of_fsm (by simp [hfsm])
    exact inv_respond (inv_storeNodeAddr h hready hbcast) hrun hfsm _ _ _
  | triggered _ _ hfsm _ hhalt e => exact inv_trigger h hfsm hhalt e
  | built typ dst _ hacc =>
    obtain ⟨hready, -, -⟩ := acceptsRequests_iff.mp hacc
    exact { inv_buildRequest h hready typ dst with }
  | fetched _ hacc => exact inv_fetched h hacc
  | pollWaits _ _ l hl => exact inv_pollWaits h hl
  | submitted w _ hacc =>
    obtain ⟨hready, -, -⟩ := acceptsRequests_iff.mp hacc
    have hset : Inv (setSubReq (.taken w) s) := { h with }
    exact { inv_txPath hset hready w with }
  | loaded ans => exact inv_loaded h ans
  | received w => exact inv_rxPush h w
  | completed w hsending => exact inv_completed h hsending
  | handled _ hpending => exact inv_completeTx h hpending
  | syncedWr => exact inv_syncWr h
  | syncedRd => exact inv_syncRd h
  | encoded | decoded | breqWaits | submitWaits => exact { h with }

theorem inv_exec {i : Instr} (h : Inv s) (hnext : exec i s = .next t) : Inv t :=
  (exec_effect hnext).inv h

/-- The SYS domain's turn (R130). -/
theorem inv_sysStep (h : Inv s) (hnext : sysStep s = .next t) : Inv t := by
  unfold sysStep at hnext
  split at hnext
  case isTrue => exact Host.Outcome.next.inj hnext ▸ h
  case isFalse hhalt =>
    split at hnext
    case h_1 | h_4 => exact Host.Outcome.next.inj hnext ▸ h
    case h_2 => exact inv_exec h hnext
    case h_3 hfsm =>
      obtain ⟨w, -, rfl⟩ := respondStep_next.mp hnext
      exact inv_sendResponse h (not_not.mp hhalt) (h.ready_of_fsm (by simp [hfsm])) w

/-- The sampling of a request port does nothing or runs an operation (R28). -/
theorem serveRequest_next {p : ReqPort} (hnext : serveRequest p s = .next t) :
    t = s ∨ ∃ i, exec i s = .next t := by
  cases p with
  | poll =>
    cases hl : s.pollReq with
    | raised => exact .inr ⟨.poll, by simpa only [serveRequest, hl] using hnext⟩
    | low | taken => exact .inl (by simpa [serveRequest, hl] using hnext.symm)
  | submit =>
    cases hl : s.subReq with
    | raised w => exact .inr ⟨.submit w, by simpa only [serveRequest, hl] using hnext⟩
    | low | taken => exact .inl (by simpa [serveRequest, hl] using hnext.symm)
  | breq =>
    cases hl : s.breqReq with
    | raised a => exact .inr ⟨.breq a.typ a.dst, by simpa only [serveRequest, hl] using hnext⟩
    | low | taken => exact .inl (by simpa [serveRequest, hl] using hnext.symm)

/-- The SUBMIT of a REQ (R84). -/
theorem inv_submitBuilt {dlc : BitVec 4} {data : BitVec 64} (h : Inv s)
    (hnext : submitBuilt dlc data s = .next t) : Inv t := by
  unfold submitBuilt at hnext
  split at hnext
  case isTrue => exact Host.Outcome.next.inj hnext ▸ h
  case isFalse =>
    split at hnext
    case h_1 => exact inv_exec h hnext
    case h_2 => exact Host.Outcome.next.inj hnext ▸ h

/-- Every move of an agent keeps the invariant (R7). -/
theorem inv_takeMove {m : Move} (h : Inv s) (hnext : takeMove m s = .next t) : Inv t := by
  cases m with
  | op i =>
    simp only [takeMove] at hnext
    split at hnext
    case isTrue => cases hnext
    case isFalse => exact inv_exec h hnext
  | sys => exact inv_sysStep h hnext
  | serve p =>
    obtain rfl | ⟨i, hexec⟩ := serveRequest_next hnext
    · exact h
    · exact inv_exec h hexec
  | drivePoll high => exact inv_drivePoll h hnext
  | driveSub level =>
    obtain ⟨l, rfl, -⟩ := driveRequest_next hnext
    exact { h with }
  | driveBreq level =>
    obtain ⟨l, rfl, -⟩ := driveRequest_next hnext
    exact { h with }
  | submitBuilt dlc data => exact inv_submitBuilt h hnext
  | setResetCause v =>
    cases hnext
    exact { h with }
  | assertResets =>
    cases hnext
    exact inv_afterReset s
  | assertOneReset d => cases hnext

end Sys2Proof.Machine
end

section
/-! Settled statements: the invariant (R112). -/

namespace Sys2Proof.Machine

open Safety

/-- Settles O14: the move is the agenda's first, or a drawn one that is taken or skipped. -/
theorem stepKeepsInv : Obligations.StepKeepsInv := by
  intro s t h hnext
  unfold step at hnext
  split at hnext
  case h_1 m rest _ =>
    have hrest : Inv { s with agenda := rest } := { h with }
    exact inv_takeMove hrest hnext
  case h_2 =>
    have hdrawn : Inv { s with draws := s.draws + 1 } := { h with }
    obtain ⟨u, hu, htaken⟩ := takeDrawn_next (Config.draw s.draws) { s with draws := s.draws + 1 }
    obtain rfl : u = t := Host.Outcome.next.inj (hu.symm.trans hnext)
    obtain htaken | rfl := htaken
    · exact inv_takeMove hdrawn htaken
    · exact hdrawn

end Sys2Proof.Machine
end

section
/-! SUPPORT. The queues of the FIFOs (R114) and the transmit order (R115) under each operation. -/

namespace Sys2Proof.Machine

open Safety

variable {s t : State}

/-! ### The RX queue -/

theorem KeepsOwned.rxQueue_eq (k : KeepsOwned s t) : rxQueue t = rxQueue s := by
  simp only [rxQueue, k.rxMem, k.rxWr, k.rxRd]

/-- RX appends its entry, or drops the frame (R105). -/
theorem rxQueue_rxPush (h : Inv s) (w : WFrame) : rxQueue (rxPush w s) =
    if cursorInc s.rxWr = s.rxRdV then rxQueue s else rxQueue s ++ [pack w] := by
  obtain ⟨hfull, hp⟩ | ⟨hroom, hp⟩ := rxPush_cases w s <;> rw [hp]
  · rw [if_pos hfull]
    rfl
  · rw [if_neg hroom]
    simp only [rxQueue, publishWr_rxMem, publishWr_rxWr, publishWr_rxRd]
    rw [fifoCount_inc_wr (h.rx_room hroom), entriesFrom_write]

/-- The fetch finds nothing, or takes the oldest entry into dispatch (R107, R131). -/
theorem rxQueue_fetch (h : Inv s) : (rxQueue (fetch s) = rxQueue s ∧ (fetch s).fsm = s.fsm) ∨
    ∃ e, rxQueue s = e :: rxQueue (fetch s) ∧ (fetch s).cur = unpack e ∧
      (fetch s).fsm = .dispatch := by
  obtain ⟨-, hf⟩ | ⟨hseen, hf⟩ := fetch_cases s <;> rw [hf]
  · exact .inl ⟨rfl, rfl⟩
  · exact .inr ⟨_, entriesFrom_of_ne _ _ (h.rxRd_ne_wr hseen), rfl, rfl⟩

/-! ### The frames started and those queued -/

theorem started_append (h l : List Event) : started (h ++ l) = started h ++ started l :=
  List.filterMap_append

@[simp] theorem started_txStart (w : WFrame) : started [.txStart w] = [w] := rfl

@[simp] theorem taken_setSubReq (l : ReqLine WFrame) (s : State) : taken (setSubReq l s) = taken s :=
  rfl

/-- Events that start no frame leave the transmit order alone. -/
theorem taken_of_not_started {l : List Event} (hqueue : txQueue t = txQueue s)
    (hhist : t.hist = s.hist ++ l) (hl : started l = []) : taken t = taken s := by
  rw [taken, taken, hqueue, hhist, started_append, hl, List.append_nil]

/-- The transmit path takes a frame exactly when it does not refuse it (R111, R115). -/
theorem taken_txPath (h : Inv s) (w : WFrame) : taken (txPath w s).2 = taken s ++
    if s.txInflight = false ∨ cursorInc s.txWr ≠ s.txRd then [clampFrame w] else [] := by
  obtain ⟨hfree, hp⟩ | ⟨hbusy, hroom, hp⟩ | ⟨hbusy, hfull, hp⟩ := txPath_cases w s <;> rw [hp]
  · have hempty := h.idleEmpty hfree
    simp [taken, txQueue, started_append, hempty, hfree, fifoCount_self, entriesFrom]
  · simp [taken, txQueue, hroom, fifoCount_inc_wr hroom, entriesFrom_write, unpack_pack]
  · simp [hbusy, hfull]

/-- The handler moves the oldest queued frame to the end of those started (R113, R115). -/
theorem taken_completeTx (s : State) : taken (completeTx s) = taken s := by
  obtain ⟨-, hc⟩ | ⟨hne, hc⟩ := completeTx_cases s <;> rw [hc]
  · rfl
  · simp [taken, txQueue, started_append, entriesFrom_of_ne _ _ hne]

/-- A terminal trigger starts no frame (R135, R144). -/
theorem taken_trigger {i : Instr} {f : Frame} (hi : i = .nodeReset f ∨ i = .nodeUpgrade f)
    (hnext : exec i s = .next t) : taken t = taken s := by
  obtain rfl | rfl := hi
  · obtain ⟨-, -, rfl⟩ := dispatching_next.mp hnext
    exact taken_of_not_started (l := [.resetTrigger]) rfl rfl rfl
  · have hcase : execNodeUpgrade f s = .next t := hnext
    rw [execNodeUpgrade, dispatching_next] at hcase
    obtain ⟨-, -, rfl⟩ := hcase
    split
    · exact taken_of_not_started (l := [.upgradeTrigger]) rfl rfl rfl
    · rfl

theorem taken_rxPush (w : WFrame) (s : State) : taken (rxPush w s) = taken s := by
  obtain ⟨-, hp⟩ | ⟨-, hp⟩ := rxPush_cases w s <;> rw [hp] <;> rfl

theorem taken_fetch (s : State) : taken (fetch s) = taken s := by
  obtain ⟨-, hf⟩ | ⟨-, hf⟩ := fetch_cases s <;> rw [hf]
  · exact taken_of_not_started rfl rfl rfl
  · rfl

/-- SUBMIT alone takes frames (R115). -/
theorem taken_of_not_submit {i : Instr} (hi : ∀ w, i ≠ .submit w) (hnext : exec i s = .next t) :
    taken t = taken s := by
  cases exec_effect hnext with
  | pollEnded | addrStored | built | loaded => exact taken_of_not_started rfl rfl rfl
  | triggered htrigger => exact taken_trigger htrigger hnext
  | fetched => exact taken_fetch _
  | received => exact taken_rxPush _ s
  | handled => exact taken_completeTx s
  | submitted w | submitWaits w => exact absurd rfl (hi w)
  | responded | encoded | decoded | breqWaits | pollWaits | completed | syncedWr | syncedRd => rfl

/-- SUBMIT takes its frame where it is accepted and not refused (R111, R115). -/
theorem taken_submit {w : WFrame} (h : Inv s) (hnext : exec (.submit w) s = .next t) :
    taken t = taken s ++
      if acceptsRequests s = true ∧ (s.txInflight = false ∨ cursorInc s.txWr ≠ s.txRd)
      then [clampFrame w] else [] := by
  obtain ⟨-, l, -, ⟨hacc, rfl⟩ | ⟨hacc, rfl⟩⟩ := request_next.mp hnext
  · have hset : Inv (setSubReq (.taken w) s) := { h with }
    have hack : taken (submitFrame w (setSubReq (.taken w) s)) =
        taken (txPath w (setSubReq (.taken w) s)).2 := taken_of_not_started rfl rfl rfl
    rw [hack, taken_txPath hset, taken_setSubReq]
    exact congrArg (taken s ++ ·) (if_congr (and_iff_right hacc).symm rfl rfl)
  · simp [hacc]

/-- In RESPOND the SYS domain's turn submits the pending response (R151). -/
theorem sysStep_of_respond {w : WFrame} (hrun : s.halt = .run) (hfsm : s.fsm = .respond)
    (hpend : s.pend = some w) : sysStep s = .next (sendResponse w s) := by
  simp [sysStep, hrun, hfsm, respondStep, hpend]

/-- The RESPOND step takes the response that the transmit path does not refuse (R115, R151). -/
theorem taken_sendResponse (h : Inv s) (w : WFrame) : taken (sendResponse w s) = taken s ++
    if s.txInflight = false ∨ cursorInc s.txWr ≠ s.txRd then [clampFrame w] else [] := by
  have hack : taken (sendResponse w s) = taken (txPath w s).2 := taken_of_not_started rfl rfl rfl
  rw [hack, taken_txPath h]

end Sys2Proof.Machine
end

section
/-! Settled statements: the FIFOs (41_fifo.md). -/

namespace Sys2Proof.Machine

open Safety

/-- Settles O18: the count is the cursors' difference, 0 where empty and largest where full. -/
theorem fifoArithmetic : Obligations.FifoArithmetic := fun _ wr rd _ =>
  ⟨toNat_cursorInc wr, beq_iff_eq, beq_iff_eq, fifoCount_eq_mod wr rd, fifoCount_lt wr rd,
    beq_iff_eq.trans fifoCount_eq_zero.symm, beq_iff_eq.trans cursorInc_eq_iff⟩

/-- Settles O21: RX is the FIFO's writer, POLL its reader, and the table of owners has no other. -/
theorem receiveOrderIsKept : Obligations.ReceiveOrderIsKept := by
  intro s t i h hnext
  refine ⟨?received, ?polled, fun hrx hpoll => ?other⟩
  case received =>
    rintro w rfl
    obtain ⟨-, rfl⟩ := whileRunning_next.mp hnext
    exact rxQueue_rxPush h (clampFrame w)
  case polled =>
    rintro rfl
    obtain ⟨-, l, -, ⟨-, rfl⟩ | ⟨-, rfl⟩⟩ := request_next.mp hnext
    · exact rxQueue_fetch (inv_setPollReq h fun _ => rfl)
    · exact .inl ⟨rfl, rfl⟩
  case other =>
    cases (exec_effect hnext).ownerWrites with
    | received w => exact absurd rfl (hrx w)
    | polled => exact absurd rfl hpoll
    | nothing k => exact k.rxQueue_eq
    | dispatched _ _ k | submitted _ k | handled k | completed k => exact k.rxQueue_eq

/-- Settles O22: SUBMIT takes its frame where the transmit path does, and no other operation takes one. -/
theorem transmitOrderIsKept : Obligations.TransmitOrderIsKept := by
  intro s t i h hnext
  split
  case h_1 w => exact taken_submit h hnext
  case h_2 hother => rw [List.append_nil, taken_of_not_submit hother hnext]

/-- Settles O23: the step is the transmit path's, with an acknowledge that starts no frame. -/
theorem responseOrderIsKept : Obligations.ResponseOrderIsKept := by
  intro s t w h hrun hfsm hpend hnext
  have hstep := sysStep_of_respond hrun hfsm hpend
  obtain rfl : sendResponse w s = t := Host.Outcome.next.inj (hstep.symm.trans hnext)
  exact taken_sendResponse h w

end Sys2Proof.Machine
end

section
/-! SUPPORT. What a push, a pop, the receive handler, the transmit path and its handler do, by the condition that decides
(R103 to R105, R111, R113). -/

namespace Sys2Proof.Machine

variable {s : State}

theorem tryPush_of_room {n : Nat} (m : Memory) {wr seen : BitVec n} (e : Entry)
    (h : cursorInc wr ≠ seen) :
    tryPush m wr seen e = some (Memory.write m wr.toNat e, cursorInc wr) := if_neg h

theorem tryPop_of_ne {n : Nat} (free : Nat → Entry) (m : Memory) {rd seen : BitVec n}
    (h : rd ≠ seen) : tryPop free m rd seen = some (Memory.read free m rd.toNat, cursorInc rd) :=
  if_neg h

theorem rxPush_of_full (w : WFrame) (h : cursorInc s.rxWr = s.rxRdV) : rxPush w s = publishWr s := by
  obtain ⟨-, hp⟩ | ⟨hroom, -⟩ := rxPush_cases w s
  · exact hp
  · exact absurd h hroom

theorem rxPush_of_room (w : WFrame) (h : cursorInc s.rxWr ≠ s.rxRdV) : rxPush w s = publishWr
    { s with rxMem := Memory.write s.rxMem s.rxWr.toNat (pack w), rxWr := cursorInc s.rxWr } := by
  obtain ⟨hfull, -⟩ | ⟨-, hp⟩ := rxPush_cases w s
  · exact absurd hfull h
  · exact hp

theorem txPath_of_free (w : WFrame) (h : s.txInflight = false) :
    txPath w s = (.sent, { startTx (clampFrame w) s with txInflight := true }) := if_pos h

theorem txPath_of_room (w : WFrame) (hbusy : s.txInflight = true)
    (hroom : cursorInc s.txWr ≠ s.txRd) : txPath w s = (.queued,
      { s with
        txMem := Memory.write s.txMem s.txWr.toNat (pack (clampFrame w))
        txWr := cursorInc s.txWr }) := by
  simp [txPath, hbusy, tryPush_of_room _ _ hroom]

theorem txPath_of_full (w : WFrame) (hbusy : s.txInflight = true)
    (hfull : cursorInc s.txWr = s.txRd) : txPath w s = (.rejectedFull, s) := by
  simp [txPath, hbusy, (tryPush_none _ _ _ _).mpr hfull]

/-- SUBMIT's next state, from the transmit path's result (R111). -/
theorem submitFrame_of_txPath {w : WFrame} {r : TxResult} {u : State} (h : txPath w s = (r, u)) :
    submitFrame w s = emit (.subAck r) u := by
  simp [submitFrame, h]

theorem completeTx_of_empty (h : s.txRd = s.txWr) :
    completeTx s = { s with txdonePending := false, txInflight := false } := by
  obtain ⟨-, hc⟩ | ⟨hne, -⟩ := completeTx_cases s
  · exact hc
  · exact absurd h hne

theorem completeTx_of_ne (h : s.txRd ≠ s.txWr) : completeTx s =
    startTx (unpack (Memory.read Config.freeTxSlot s.txMem s.txRd.toNat))
      { s with txdonePending := false, txRd := cursorInc s.txRd } := by
  obtain ⟨hempty, -⟩ | ⟨-, hc⟩ := completeTx_cases s
  · exact absurd hempty h
  · exact hc

/-- A push moves the write cursor. -/
theorem cursorInc_ne_self {n : Nat} (hn : 0 < n) (x : BitVec n) : cursorInc x ≠ x := by
  intro h
  have hpow : 2 ≤ 2 ^ n := Nat.le_self_pow hn.ne' 2
  have hcount := cursorInc_eq_iff.mp h
  rw [fifoCount_self] at hcount
  omega

end Sys2Proof.Machine
end

section
/-! Settled statements: the FIFO operations (41_fifo.md). -/

namespace Sys2Proof.Machine

open Safety

/-- Settles O24: RX moves its cursor where it stores, and both bounds are one less than a capacity. -/
theorem capacityBounds : Obligations.CapacityBounds := by
  intro s hrun
  refine ⟨fun w => ?receive, fun w => ?transmit⟩
  case receive =>
    rw [← show cursorInc s.rxWr = s.rxRdV ↔ fifoCount s.rxWr s.rxRdV = 15 from cursorInc_eq_iff]
    constructor
    · rintro ⟨t, hnext, hkept⟩
      by_contra hroom
      obtain ⟨-, rfl⟩ := whileRunning_next.mp hnext
      rw [rxPush_of_room _ hroom] at hkept
      exact cursorInc_ne_self (by decide) s.rxWr hkept
    · intro hfull
      refine ⟨_, whileRunning_next.mpr ⟨hrun, rfl⟩, ?_⟩
      rw [rxPush_of_full _ hfull, publishWr_rxWr]
  case transmit =>
    rw [← show cursorInc s.txWr = s.txRd ↔ fifoCount s.txWr s.txRd = 7 from cursorInc_eq_iff,
      txPath_result]
    cases s.txInflight with
    | false => simp
    | true => by_cases hfull : cursorInc s.txWr = s.txRd <;> simp [hfull]

/-- Settles O19: a push writes the slot of its cursor, a pop reads it. -/
theorem pushStoresAndPopReads : Obligations.PushStoresAndPopReads := by
  intro n free m wr rd seen e
  refine ⟨(tryPush_none m wr seen e).mpr, fun hroom => ?stored, (tryPop_none free m rd seen).mpr,
    tryPop_of_ne free m⟩
  case stored =>
    exact ⟨_, tryPush_of_room m e hroom, Memory.read_write_same free m _ e,
      fun _ hk => Memory.read_write_other free m e hk⟩

/-- Settles O20: the receive handler drops the frame where the FIFO is full as seen, and else stores it. -/
theorem receiveStoresOrDrops : Obligations.ReceiveStoresOrDrops := by
  intro s w hrun
  refine ⟨fun hfull => ?dropped, fun hroom => ?stored⟩
  case dropped => exact whileRunning_next.mpr ⟨hrun, (rxPush_of_full _ hfull).symm⟩
  case stored =>
    exact ⟨_, whileRunning_next.mpr ⟨hrun, (rxPush_of_room (clampFrame w) hroom).symm⟩,
      Memory.read_write_same _ _ _ _, fun _ hk => Memory.read_write_other _ _ _ hk⟩

/-- Settles O25: in a running block each step is its copy. -/
theorem syncStepsCopyCursors : Obligations.SyncStepsCopyCursors :=
  fun _ hrun => ⟨execSyncW_next.mpr ⟨hrun, rfl⟩, execSyncR_next.mpr ⟨hrun, rfl⟩⟩

/-- Settles O28: where the port holds no other frame SUBMIT is accepted, with the transmit path's result. -/
theorem submitSendsQueuesOrRefuses : Obligations.SubmitSendsQueuesOrRefuses := by
  rintro s w v hrun hacc rfl
  refine ⟨fun u hraised hother => request_changed hrun hraised hother, fun hsame => ?_⟩
  have hnext : exec (.submit w) s = .next (submitFrame w (setSubReq (.taken w) s)) :=
    request_accepted hrun hacc rfl hsame
  rw [hnext]
  refine ⟨fun hfree => ?sent, fun hbusy hroom => ?queued, fun hbusy hfull => ?refused⟩
  case sent =>
    have hpath := txPath_of_free (s := setSubReq (.taken w) s) w hfree
    rw [submitFrame_of_txPath hpath, emit, startTx_hist, List.append_assoc]
    rfl
  case queued =>
    have hpath := txPath_of_room (s := setSubReq (.taken w) s) w hbusy hroom
    rw [submitFrame_of_txPath hpath]
    exact ⟨_, rfl, Memory.read_write_same _ _ _ _, fun _ hk => Memory.read_write_other _ _ _ hk⟩
  case refused =>
    have hpath := txPath_of_full (s := setSubReq (.taken w) s) w hbusy hfull
    rw [submitFrame_of_txPath hpath]
    rfl

/-- Settles O29, by whether a frame is queued. -/
theorem handlerStartsNextOrFrees : Obligations.HandlerStartsNextOrFrees := by
  intro s hrun hpending
  refine ⟨fun hempty => ?freed, fun hne => ?started⟩
  case freed => exact execTxdoneH_next.mpr ⟨hrun, hpending, (completeTx_of_empty hempty).symm⟩
  case started =>
    exact ⟨_, rfl, execTxdoneH_next.mpr ⟨hrun, hpending, (completeTx_of_ne hne).symm⟩⟩

end Sys2Proof.Machine
end

section
/-! SUPPORT. What a well-formed configuration says of its groups (R71 to R73), and the rule of R133 it gives a request. -/

namespace Sys2Proof

open Sys2Proof.Machine

variable {c : Cfg} {self : Addr} {f : Frame}

/-- The requests to every node are in the broadcast group (R71, R73). -/
theorem Cfg.inBcast_of_wf (hc : c.wf = true) {t : MsgType} (ht : t = .discover ∨ t = .nodeReset) :
    inBcast c (typeCodeOf c t) = true := by
  simp only [Cfg.wf, Cfg.groupsHoldRequests, Bool.and_eq_true, List.all_eq_true] at hc
  obtain ⟨⟨⟨⟨-, hbcast, -⟩, -⟩, -⟩, -⟩ := hc
  exact hbcast _ (by rcases ht with rfl | rfl <;> simp [typeCodeOf])

/-- The types of the requests to one node (R71). -/
def MsgType.nodeRequests : List MsgType :=
  [.setReg, .getReg, .nodeUpgrade, .setBit, .clearBit, .toggleBit]

/-- The requests to one node are in the node group (R71, R73). -/
theorem Cfg.inNode_of_wf (hc : c.wf = true) {t : MsgType} (ht : t ∈ MsgType.nodeRequests) :
    inNode c (typeCodeOf c t) = true := by
  simp only [Cfg.wf, Cfg.groupsHoldRequests, Bool.and_eq_true, List.all_eq_true] at hc
  obtain ⟨⟨⟨⟨-, -, hnode⟩, -⟩, -⟩, -⟩ := hc
  exact hnode _ (List.mem_map_of_mem ht)

/-- No type is in two groups (R73). -/
theorem Cfg.inBcast_eq_false_of_wf (hc : c.wf = true) {t : TypeCode}
    (ht : inNode c t = true ∨ inRemote c t = true) : inBcast c t = false := by
  simp only [Cfg.wf, Cfg.groupsDisjoint, Bool.and_eq_true, List.all_eq_true, Bool.not_eq_true']
    at hc
  obtain ⟨⟨⟨⟨⟨-, hdisjoint, -⟩, -⟩, -⟩, -⟩, -⟩ := hc
  by_contra hbcast
  obtain ⟨hnode, hremote⟩ := hdisjoint t (by simpa [inBcast] using hbcast)
  rcases ht with ht | ht
  · exact Bool.eq_false_iff.mp hnode ht
  · exact Bool.eq_false_iff.mp hremote ht

theorem Cfg.inNode_eq_false_of_wf (hc : c.wf = true) {t : TypeCode} (ht : inRemote c t = true) :
    inNode c t = false := by
  simp only [Cfg.wf, Cfg.groupsDisjoint, Bool.and_eq_true, List.all_eq_true, Bool.not_eq_true']
    at hc
  obtain ⟨⟨⟨⟨⟨-, -, hdisjoint⟩, -⟩, -⟩, -⟩, -⟩ := hc
  by_contra hnode
  exact Bool.eq_false_iff.mp (hdisjoint t (by simpa [inNode] using hnode)) ht

/-- A frame outside the broadcast group is not rule 1's. -/
theorem isRule1_eq_false (h : inBcast c f.typ = false) : isRule1 c self f = false :=
  Bool.eq_false_iff.mpr fun hrule =>
    let ⟨_, hbcast, _⟩ := isRule1_iff.mp hrule
    Bool.eq_false_iff.mp h hbcast

/-- A request to every node, at this node, is rule 1's. -/
theorem isRule1_of_request (hc : c.wf = true) {t : MsgType} (ht : t = .discover ∨ t = .nodeReset)
    (hsrc : f.src ≠ bcast) (hdst : f.dst = self ∨ f.dst = bcast) (htyp : f.typ = typeCodeOf c t) :
    isRule1 c self f = true :=
  isRule1_iff.mpr ⟨hsrc, htyp ▸ Cfg.inBcast_of_wf hc ht, hdst⟩

/-- A request to one node, at this node, is rule 2's. -/
theorem isRule2_of_request (hc : c.wf = true) {t : MsgType} (ht : t ∈ MsgType.nodeRequests)
    (hsrc : f.src ≠ bcast) (hdst : f.dst = self) (htyp : f.typ = typeCodeOf c t) :
    isRule2 c self f = true :=
  have hnode : inNode c f.typ = true := htyp ▸ Cfg.inNode_of_wf hc ht
  isRule2_iff.mpr ⟨hsrc, isRule1_eq_false (Cfg.inBcast_eq_false_of_wf hc (.inl hnode)), hnode, hdst⟩

/-- A frame of the all-remote-node group is rule 3's (R147). -/
theorem isRule3_of_remote (hc : c.wf = true) (hsrc : f.src ≠ bcast)
    (hremote : inRemote c f.typ = true) : isRule3 c self f = true :=
  have hnode : isRule2 c self f = false := Bool.eq_false_iff.mpr fun hrule =>
    let ⟨_, _, hnode, _⟩ := isRule2_iff.mp hrule
    Bool.eq_false_iff.mp (Cfg.inNode_eq_false_of_wf hc hremote) hnode
  isRule3_iff.mpr
    ⟨hsrc, isRule1_eq_false (Cfg.inBcast_eq_false_of_wf hc (.inr hremote)), hnode, hremote⟩

/-- A bit operation to this node is rule 2's, and its code tells its row. -/
theorem classify_bitOp {c : Cfg} {self : Addr} {f : Frame} (hc : c.wf = true) {t : MsgType}
    (ht : t = .setBit ∨ t = .clearBit ∨ t = .toggleBit) (hsrc : f.src ≠ bcast) (hdst : f.dst = self)
    (hdlc : f.dlc = 2) (htyp : f.typ = typeCodeOf c t) : classify c self f =
      if t = .setBit then .setBit f else if t = .clearBit then .clearBit f else .toggleBit f := by
  have hnode : t ∈ MsgType.nodeRequests := by rcases ht with rfl | rfl | rfl <;> decide
  have hset : t ≠ .setReg := by rcases ht with rfl | rfl | rfl <;> decide
  rw [classify_of_isRule2 (isRule2_of_request hc hnode hsrc hdst htyp),
    decodeRule2_of_isBitOp hc hset (isBitOp_iff.mpr ⟨htyp, hdlc⟩)]
  rcases ht with rfl | rfl | rfl <;> rfl

end Sys2Proof
end

section
/-! SUPPORT. The dispatch cases, said once over the eighteen: each runs its body in DISPATCH, and the body ends the poll,
leaves a response pending, or triggers (R130, R152). -/

namespace Sys2Proof.Machine

variable {s t : State} {i : Instr} {f : Frame}

/-- What a dispatch case of frame `f` makes of `s`. -/
inductive DispatchEffect (s : State) (f : Frame) : State → Prop
  /-- The poll ends without a response (R132, R137, R145, R147). -/
  | ended {r : PollResult} (hr : r = .delegate ∨ r = .passThrough ∨ r = .rejected) (w : WFrame) :
      DispatchEffect s f (finishPoll r w s)
  /-- A response is pending (R149). -/
  | responded (typ : MsgType) (payload : List Byte) : DispatchEffect s f (respond typ payload f s)
  /-- The address is written, and a response from the new address is pending (R138). -/
  | stored (v : Addr) (typ : MsgType) (payload : List Byte) :
      DispatchEffect s f (respond typ payload f (storeNodeAddr v s))
  /-- NODE_RESET's trigger (R135). -/
  | reset : DispatchEffect s f (trigger .resetTriggered .resetTrigger s)
  /-- NODE_UPGRADE's trigger (R144). -/
  | upgrade : DispatchEffect s f (trigger .upgradeTriggered .upgradeTrigger s)

theorem dispatchEffect_delegate (f : Frame) (s : State) : DispatchEffect s f (delegate f s) :=
  .ended (.inl rfl) (wire f)

theorem dispatchEffect_writeNodeId (f : Frame) (s : State) :
    DispatchEffect s f (writeNodeId f s) := by
  rcases writeNodeId_cases f s with ⟨-, h⟩ | ⟨-, -, h⟩ | ⟨-, -, h⟩ <;> rw [h]
  · exact .responded _ _
  · exact .responded _ _
  · exact .stored _ _ _

/-- Every dispatch case is one step, enabled in DISPATCH, with one of the effects. -/
theorem exec_eq_dispatching (s : State) (hi : i.frame? = some f) :
    ∃ body, exec i s = dispatching s body ∧ DispatchEffect s f (body s) := by
  cases i <;> cases hi
  case rejectSrcBcast =>
    exact ⟨finishPoll .rejected zeroFrame, rfl, .ended (.inr (.inr rfl)) zeroFrame⟩
  case remotePassThrough =>
    exact ⟨finishPoll .passThrough (wire f), rfl, .ended (.inr (.inl rfl)) (wire f)⟩
  case setBit | clearBit | toggleBit => exact ⟨delegate f, rfl, dispatchEffect_delegate f s⟩
  case discover => exact ⟨_, show execDiscover f s = _ from rfl, .responded _ _⟩
  case nodeReset => exact ⟨trigger .resetTriggered .resetTrigger, rfl, .reset⟩
  case bcastInvalid | nodeInvalid | noMatch =>
    exact ⟨raiseError .invalidMsg f, rfl, .responded _ _⟩
  case setRegUnassigned | getRegUnassigned =>
    exact ⟨raiseError .invalidRegister f, rfl, .responded _ _⟩
  case setRegReadOnly => exact ⟨raiseError .readOnlyRegister f, rfl, .responded _ _⟩
  case setRegNodeId => exact ⟨writeNodeId f, rfl, dispatchEffect_writeNodeId f s⟩
  case getRegStandard => exact ⟨readRegister f, rfl, .responded _ _⟩
  case nodeUpgrade =>
    refine ⟨_, show execNodeUpgrade f s = _ from rfl, ?_⟩
    split
    · exact .upgrade
    · exact .responded _ _
  case getReg =>
    refine ⟨_, show execGetReg f s = _ from rfl, ?_⟩
    split
    · exact dispatchEffect_delegate f s
    · split <;> exact .responded _ _
  case setReg =>
    refine ⟨_, show execSetReg f s = _ from rfl, ?_⟩
    split
    · exact dispatchEffect_delegate f s
    · split
      · exact dispatchEffect_writeNodeId f s
      · exact .responded _ _
      · exact .responded _ _

/-- In DISPATCH of a running block every dispatch case completes. -/
theorem exec_dispatches (hrun : s.halt = .run) (hfsm : s.fsm = .dispatch)
    (hi : i.frame? = some f) : ∃ t, exec i s = .next t := by
  obtain ⟨body, hexec, -⟩ := exec_eq_dispatching s hi
  exact ⟨body s, hexec.trans (dispatching_next.mpr ⟨hrun, hfsm, rfl⟩)⟩

/-- A dispatch case that completes ran in DISPATCH of a running block, with one of the effects. -/
theorem exec_dispatchEffect (hi : i.frame? = some f) (hnext : exec i s = .next t) :
    s.halt = .run ∧ s.fsm = .dispatch ∧ DispatchEffect s f t := by
  obtain ⟨body, hexec, heffect⟩ := exec_eq_dispatching s hi
  obtain ⟨hrun, hfsm, rfl⟩ := dispatching_next.mp (hexec.symm.trans hnext)
  exact ⟨hrun, hfsm, heffect⟩

/-- The identifier of a response mirrors the request's (R149). -/
theorem responseFrame_id (typ : MsgType) (payload : List Byte) (f : Frame) (s : State) :
    idSeq (responseFrame typ payload f s).id = f.seq ∧
    idDst (responseFrame typ payload f s).id = f.src ∧
    idSrc (responseFrame typ payload f s).id = s.nodeAddr ∧
    idPrio (responseFrame typ payload f s).id = s.cfg.corePrio := by
  simp [responseFrame, encodeFields]

/-! ### The acknowledges of a poll -/

open Safety

@[simp] theorem pollAcks_append (h l : List Event) :
    pollAcks (h ++ l) = pollAcks h + pollAcks l := by
  simp [pollAcks]

@[simp] theorem pollAcks_pollAck (r : PollResult) (st : RespStatus) (w : WFrame) :
    pollAcks [.pollAck r st w] = 1 := rfl

@[simp] theorem pollAcks_txStart (w : WFrame) : pollAcks [.txStart w] = 0 := rfl
@[simp] theorem pollAcks_persistStore (v : Addr) : pollAcks [.persistStore v] = 0 := rfl
@[simp] theorem pollAcks_resetTrigger : pollAcks [.resetTrigger] = 0 := rfl
@[simp] theorem pollAcks_upgradeTrigger : pollAcks [.upgradeTrigger] = 0 := rfl

/-- The transmit path acknowledges no poll. -/
theorem pollAcks_txPath (w : WFrame) (s : State) :
    pollAcks (txPath w s).2.hist = pollAcks s.hist := by
  rw [txPath_hist, pollAcks_append]
  split <;> rfl

/-- The RESPOND step acknowledges the poll once (R151). -/
theorem pollAcks_sendResponse (w : WFrame) (s : State) :
    pollAcks (sendResponse w s).hist = pollAcks s.hist + 1 := by
  simp [sendResponse, pollAcks_txPath]

end Sys2Proof.Machine
end

section
/-! Settled statements: the ends of a dispatch case (42_dispatcher.md). -/

namespace Sys2Proof.Machine

open Safety

/-- Settles O52, by the effects of a dispatch case. -/
theorem dispatchOutcomes : Obligations.DispatchOutcomes := by
  intro s t i f hi hnext
  obtain ⟨hrun, -, heffect⟩ := exec_dispatchEffect hi hnext
  cases heffect with
  | ended hr w => exact .inl ⟨rfl, hrun, rfl, _, w, rfl, hr⟩
  | responded => exact .inr (.inl ⟨rfl, hrun, rfl, rfl, rfl⟩)
  | stored => exact .inr (.inl ⟨rfl, hrun, rfl, rfl, by simp⟩)
  | reset => exact .inr (.inr ⟨rfl, by simp, .inl rfl⟩)
  | upgrade => exact .inr (.inr ⟨rfl, by simp, .inr rfl⟩)

/-- Settles O51: the two effects that end in RESPOND build the response from the state they leave. -/
theorem responsesMirrorRequests : Obligations.ResponsesMirrorRequests := by
  intro s t i f hi hnext hrespond
  obtain ⟨-, -, heffect⟩ := exec_dispatchEffect hi hnext
  cases heffect with
  | responded typ payload => exact ⟨rfl, _, rfl, responseFrame_id typ payload f s⟩
  | stored v typ payload => exact ⟨rfl, _, rfl, responseFrame_id typ payload f (storeNodeAddr v s)⟩
  | ended | reset | upgrade => cases hrespond

end Sys2Proof.Machine
end

section
/-! SUPPORT. The values and the answers of the dispatch cases in the rules' own words (R68, R75, R142, R149, R150). -/

namespace Sys2Proof.Machine

open Safety

variable {s : State} {f : Frame}

/-- The two bytes of a 16-bit value, by division (R46). -/
theorem be16_eq (v : BitVec 16) : be16 v = [hi v, lo v] := by
  have hhigh : v.extractLsb' 8 8 = hi v := by
    apply BitVec.eq_of_toNat_eq
    rw [toNat_slice, hi, BitVec.toNat_ofNat]
    omega
  have hlow : v.extractLsb' 0 8 = lo v := by
    apply BitVec.eq_of_toNat_eq
    rw [toNat_slice, lo, BitVec.toNat_ofNat]
    omega
  rw [be16, hhigh, hlow]

/-- The two bytes of an address as a register value (R68). -/
theorem be16_setWidth (v : Addr) :
    be16 (v.setWidth 16) = [BitVec.ofNat 8 (v.toNat / 256), BitVec.ofNat 8 (v.toNat % 256)] := by
  have hv : (v.setWidth 16).toNat = v.toNat := BitVec.toNat_setWidth_of_le (by decide)
  rw [be16_eq, hi, lo, hv]

/-- The address operand by arithmetic (R68). -/
theorem addrOperand_eq (f : Frame) : addrOperand f =
    BitVec.ofNat 9 ((dataByte f.data 1).toNat * 256 + (dataByte f.data 2).toNat) := by
  apply BitVec.eq_of_toNat_eq
  simp only [addrOperand, addrOf16, toNat_slice, toNat_append_eq_mul_add, BitVec.toNat_ofNat]
  omega

/-- The build descriptor's six bytes, each missing one 0 (R142). -/
theorem buildDescSix_eq (c : Cfg) :
    buildDescSix c = (List.range 6).map (fun k => c.buildDesc.getD k 0) := by
  apply List.ext_getElem
  · simp [buildDescSix]
  · intro k hk _
    by_cases h : k < c.buildDesc.length
    · simp [buildDescSix, List.getElem_append_left h, h]
    · have hlen : c.buildDesc.length ≤ k := Nat.not_lt.mp h
      simp [buildDescSix, List.getElem_append_right hlen, hlen, -List.reduceReplicate]

/-- The bytes of a standard register are R142's, row by row. -/
theorem regValue_eq (c : Cfg) (addr : Addr) (cause : Byte) (k : RegKind) :
    regValue c addr cause k = registerBytes c addr cause k := by
  cases k with
  | nodeType | fwVersion => simp [regValue, registerBytes, be16_eq]
  | nodeId => exact be16_setWidth addr
  | buildDesc => exact buildDescSix_eq c
  | hwRevision | mcuId | serialNumber | resetCause | unassigned => rfl

/-- A response as R149 writes it. -/
theorem respond_eq_answered (typ : MsgType) (payload : List Byte) (f : Frame) (s : State) :
    respond typ payload f s = answered (typeCodeOf s.cfg typ) payload f s := rfl

/-- An ERROR response as R150 writes it. -/
theorem raiseError_eq_answeredError (e : ErrName) (f : Frame) (s : State) :
    raiseError e f s = answeredError (errCodeOf s.cfg e) f s := rfl

/-- A poll ended as R132, R137, R145 and R147 write it. -/
theorem finishPoll_eq_acknowledged (r : PollResult) (w : WFrame) (s : State) :
    finishPoll r w s = acknowledged r w s := rfl

/-! ### The bodies of DISCOVER, SET_REG and GET_REG -/

/-- A dispatch case's meaning depends on its body at the state alone. -/
theorem dispatching_congr {body body' : State → State} (h : body s = body' s) :
    dispatching s body = dispatching s body' := by
  rw [dispatching, dispatching, h]

/-- DISCOVER's body leaves NODE_INFO pending (R93, R134). -/
theorem execDiscover_eq (f : Frame) (s : State) : execDiscover f s =
    dispatching s (respond .nodeInfo (nodeInfoPayload s.cfg) f) := dispatching_congr rfl

/-- SET_REG of an index from 10 on is delegated (R137). -/
theorem execSetReg_of_ge (h : nStdRegs ≤ regIndex f) :
    execSetReg f s = dispatching s (delegate f) :=
  dispatching_congr (if_pos h)

/-- SET_REG of a NODE_ID slot is SET_REG.NODE_ID (R137, R138). -/
theorem execSetReg_of_nodeId (h : regIndex f < nStdRegs)
    (hkind : regKindOf s.cfg (regIndex f) = .nodeId) : execSetReg f s = execSetRegNodeId f s :=
  dispatching_congr (by simp [Nat.not_le.mpr h, hkind])

/-- SET_REG of an unassigned slot is SET_REG.UNASSIGNED (R137, R140). -/
theorem execSetReg_of_unassigned (h : regIndex f < nStdRegs)
    (hkind : regKindOf s.cfg (regIndex f) = .unassigned) :
    execSetReg f s = execSetRegUnassigned f s :=
  dispatching_congr (by simp [Nat.not_le.mpr h, hkind])

/-- SET_REG of any other slot is SET_REG.READ_ONLY (R137, R139). -/
theorem execSetReg_of_readOnly (h : regIndex f < nStdRegs)
    (hnode : regKindOf s.cfg (regIndex f) ≠ .nodeId)
    (hfree : regKindOf s.cfg (regIndex f) ≠ .unassigned) :
    execSetReg f s = execSetRegReadOnly f s := by
  refine dispatching_congr ?_
  rw [if_neg (Nat.not_le.mpr h)]
  split
  case h_1 hkind => exact absurd hkind hnode
  case h_2 hkind => exact absurd hkind hfree
  case h_3 => rfl

/-- GET_REG of an index from 10 on is delegated (R141). -/
theorem execGetReg_of_ge (h : nStdRegs ≤ regIndex f) :
    execGetReg f s = dispatching s (delegate f) :=
  dispatching_congr (if_pos h)

/-- GET_REG of an unassigned slot is GET_REG.UNASSIGNED (R141, R143). -/
theorem execGetReg_of_unassigned (h : regIndex f < nStdRegs)
    (hkind : regKindOf s.cfg (regIndex f) = .unassigned) :
    execGetReg f s = execGetRegUnassigned f s :=
  dispatching_congr (by rw [if_neg (Nat.not_le.mpr h), if_pos hkind])

/-- GET_REG of an assigned slot is GET_REG.STANDARD (R141, R142). -/
theorem execGetReg_of_assigned (h : regIndex f < nStdRegs)
    (hkind : regKindOf s.cfg (regIndex f) ≠ .unassigned) :
    execGetReg f s = execGetRegStandard f s :=
  dispatching_congr (by rw [if_neg (Nat.not_le.mpr h), if_neg hkind])

/-! ### What a dispatch case answers in DISPATCH of a running block -/

section
variable (hrun : s.halt = .run) (hfsm : s.fsm = .dispatch)
include hrun hfsm

theorem dispatching_of {body : State → State} {t : State} (h : body s = t) :
    dispatching s body = .next t :=
  dispatching_next.mpr ⟨hrun, hfsm, h.symm⟩

/-- An address write of another length than 3 is answered REGISTER_SIZE_MISMATCH (R138). -/
theorem execSetRegNodeId_of_size (h : f.dlc ≠ 3) :
    execSetRegNodeId f s = .next (raiseError .registerSizeMismatch f s) :=
  dispatching_of hrun hfsm (if_pos h)

/-- An address write of an illegal value is answered `ADDR_REJECT_CODE` (R138). -/
theorem execSetRegNodeId_of_rejected (h : f.dlc = 3) (hval : addrRejected (addrOperand f) = true) :
    execSetRegNodeId f s = .next (raiseError s.cfg.addrRejectCode f s) :=
  dispatching_of hrun hfsm (by rw [writeNodeId, if_neg (not_not.mpr h), if_pos hval])

/-- An address write of a legal value is stored and echoed (R138). -/
theorem execSetRegNodeId_of_stored (h : f.dlc = 3) (hval : addrRejected (addrOperand f) = false) :
    execSetRegNodeId f s = .next (reply .setReg (nodeIdChangedPayload (addrOperand f)) f
      (storeNodeAddr (addrOperand f) s)) :=
  dispatching_of hrun hfsm (writeNodeId_stored s h hval)

/-- NODE_UPGRADE on a build without it is answered BOOTLOADER_UNSUPPORTED (R144). -/
theorem execNodeUpgrade_of_unsupported (h : s.cfg.upgradeSupported = false) :
    execNodeUpgrade f s = .next (raiseError .bootloaderUnsupported f s) :=
  dispatching_of hrun hfsm (if_neg (Bool.eq_false_iff.mp h))

end

end Sys2Proof.Machine
end

section
/-! Settled statements: the dispatch cases one by one (42_dispatcher.md). -/

namespace Sys2Proof.Machine

open Safety

/-- Settles O37: the source check comes first. -/
theorem broadcastSourceRejected : Obligations.BroadcastSourceRejected :=
  fun _ _ hrun hfsm =>
    ⟨classify_of_srcBcast, dispatching_of hrun hfsm (finishPoll_eq_acknowledged _ _ _)⟩

/-- Settles O38: DISCOVER is rule 1's, and its payload is R75's. -/
theorem discoverAnsweredWithNodeInfo : Obligations.DiscoverAnsweredWithNodeInfo := by
  intro s f hrun hfsm
  refine ⟨fun hc hsrc hdst htyp hdlc => ?row, ?answer⟩
  case row =>
    have hrule := isRule1_of_request (t := .discover) hc (.inl rfl) hsrc hdst htyp
    exact classify_of_wf hc rfl (by simp [Instr.wf, Frame.wf, hrule, htyp, hdlc, typeCodeOf])
  case answer =>
    have hpayload : nodeInfoPayload s.cfg = [hi s.cfg.nodeType, lo s.cfg.nodeType,
        hi s.cfg.versionMajor, lo s.cfg.versionMajor, hi s.cfg.versionMinor,
        lo s.cfg.versionMinor, s.cfg.hwRevision] := by simp [nodeInfoPayload, be16_eq]
    rw [← hpayload]
    exact (execDiscover_eq f s).trans
      (dispatching_of hrun hfsm (respond_eq_answered .nodeInfo _ f s))

/-- Settles O39: NODE_RESET is rule 1's, and its body is the reset trigger. -/
theorem nodeResetIsTerminal : Obligations.NodeResetIsTerminal := by
  intro s f hrun hfsm
  refine ⟨fun hc hsrc hdst htyp hdlc => ?row, dispatching_of hrun hfsm rfl⟩
  case row =>
    have hrule := isRule1_of_request (t := .nodeReset) hc (.inr rfl) hsrc hdst htyp
    exact classify_of_wf hc rfl (by simp [Instr.wf, Frame.wf, hrule, htyp, hdlc, typeCodeOf])

/-- Settles O40: each fall-through's body is the one error. -/
theorem fallThroughsAnswerInvalidMsg : Obligations.FallThroughsAnswerInvalidMsg :=
  fun _ _ hrun hfsm =>
    have herror := raiseError_eq_answeredError .invalidMsg
    ⟨dispatching_of hrun hfsm (herror _ _), dispatching_of hrun hfsm (herror _ _),
      dispatching_of hrun hfsm (herror _ _)⟩

/-- Settles O41: by the slot's kind SET_REG is one of its index rows. -/
theorem setRegDispatchesOnIndex : Obligations.SetRegDispatchesOnIndex :=
  fun _ _ hrun hfsm =>
    ⟨fun h => (execSetReg_of_ge h).trans
        (dispatching_of hrun hfsm (finishPoll_eq_acknowledged _ _ _)),
      execSetReg_of_nodeId,
      fun h hkind => (execSetReg_of_unassigned h hkind).trans
        (dispatching_of hrun hfsm (raiseError_eq_answeredError .invalidRegister _ _)),
      fun h hnode hfree => (execSetReg_of_readOnly h hnode hfree).trans
        (dispatching_of hrun hfsm (raiseError_eq_answeredError .readOnlyRegister _ _))⟩

/-- Settles O42: the value is the address operand, and it is rejected at 0 and at the broadcast address. -/
theorem nodeIdWriteStoresAndEchoes : Obligations.NodeIdWriteStoresAndEchoes := by
  intro s f v hrun hfsm hv
  obtain rfl : addrOperand f = v := (addrOperand_eq f).trans hv.symm
  refine ⟨execSetRegNodeId_of_size hrun hfsm, fun hdlc hval => ?rejected,
    fun hdlc hzero hbcast => ?stored⟩
  case rejected =>
    exact execSetRegNodeId_of_rejected hrun hfsm hdlc (by simpa [addrRejected] using hval)
  case stored =>
    have hok := addrRejected_eq_false.mpr ⟨hzero, hbcast⟩
    rw [← be16_setWidth]
    exact execSetRegNodeId_of_stored hrun hfsm hdlc hok

/-- Settles O43: each row's body is its error. -/
theorem registerErrorsAnswered : Obligations.RegisterErrorsAnswered :=
  fun _ _ hrun hfsm =>
    ⟨dispatching_of hrun hfsm (raiseError_eq_answeredError .readOnlyRegister _ _),
      dispatching_of hrun hfsm (raiseError_eq_answeredError .invalidRegister _ _),
      dispatching_of hrun hfsm (raiseError_eq_answeredError .invalidRegister _ _)⟩

/-- Settles O44: the frame is rule 2's, and its row is the index dispatch's. -/
theorem registerRowsByIndex : Obligations.RegisterRowsByIndex := by
  rintro s f k hc rfl
  refine ⟨fun hrow => ?setReg, fun hrow => ?getReg⟩
  case setReg =>
    obtain ⟨hsrc, hdst, htyp, hdlc⟩ := hrow
    have hrule := isRule2_of_request (t := .setReg) hc (by decide) hsrc hdst htyp
    rw [classify_of_isRule2 hrule, decodeRule2_of_isSetReg (isSetReg_iff.mpr ⟨htyp, hdlc⟩)]
    rfl
  case getReg =>
    obtain ⟨hsrc, hdst, htyp, hdlc⟩ := hrow
    have hrule := isRule2_of_request (t := .getReg) hc (by decide) hsrc hdst htyp
    rw [classify_of_isRule2 hrule, decodeRule2_of_isGetReg (isGetReg_iff.mpr ⟨htyp, hdlc⟩)]
    rfl

/-- Settles O45: the register's bytes are R142's. -/
theorem getRegAnswersValue : Obligations.GetRegAnswersValue := by
  intro s f hrun hfsm
  refine dispatching_of hrun hfsm ?_
  rw [← regValue_eq]
  exact respond_eq_answered .regValue _ f s

/-- Settles O46: by the slot's kind GET_REG is one of its index rows. -/
theorem getRegDispatchesOnIndex : Obligations.GetRegDispatchesOnIndex :=
  fun _ _ hrun hfsm =>
    ⟨fun h => (execGetReg_of_ge h).trans
        (dispatching_of hrun hfsm (finishPoll_eq_acknowledged _ _ _)),
      fun h hkind => (execGetReg_of_unassigned h hkind).trans
        (dispatching_of hrun hfsm (raiseError_eq_answeredError .invalidRegister _ _)),
      execGetReg_of_assigned⟩

/-- Settles O47: the build decides the answer, and NODE_UPGRADE is rule 2's. -/
theorem upgradeTriggersOrIsRefused : Obligations.UpgradeTriggersOrIsRefused := by
  intro s f hrun hfsm
  refine ⟨fun hup => (execNodeUpgrade_next hup).mpr ⟨hrun, hfsm, rfl⟩,
    execNodeUpgrade_of_unsupported hrun hfsm, fun hc hsrc hdst htyp hdlc => ?row⟩
  case row =>
    have hrule := isRule2_of_request (t := .nodeUpgrade) hc (by decide) hsrc hdst htyp
    rw [classify_of_isRule2 hrule, decodeRule2_of_isUpgrade (isUpgrade_iff.mpr ⟨htyp, hdlc⟩)]

/-- Settles O48: each bit operation's body is the delegation, and its row follows from its code. -/
theorem bitOperationsDelegated : Obligations.BitOperationsDelegated := by
  intro s f hrun hfsm
  have hdelegate := finishPoll_eq_acknowledged .delegate (wire f) s
  refine ⟨dispatching_of hrun hfsm hdelegate, dispatching_of hrun hfsm hdelegate,
    dispatching_of hrun hfsm hdelegate, fun hc hsrc hdst hdlc => ⟨?setBit, ?clearBit, ?toggleBit⟩⟩
  case setBit => exact classify_bitOp (t := .setBit) hc (.inl rfl) hsrc hdst hdlc
  case clearBit => exact classify_bitOp (t := .clearBit) hc (.inr (.inl rfl)) hsrc hdst hdlc
  case toggleBit => exact classify_bitOp (t := .toggleBit) hc (.inr (.inr rfl)) hsrc hdst hdlc

/-- Settles O49: the groups are disjoint, so the frame is rule 3's. -/
theorem remoteGroupPassedThrough : Obligations.RemoteGroupPassedThrough :=
  fun s f hrun hfsm =>
    ⟨fun hc hsrc hremote => classify_of_isRule3 (isRule3_of_remote hc hsrc hremote),
      dispatching_of hrun hfsm (finishPoll_eq_acknowledged .passThrough (wire f) s)⟩

end Sys2Proof.Machine
end

section
/-! SUPPORT. The turns of a poll (R130): what the SYS domain's turn does in each state of the dispatcher, and the fetch. -/

namespace Sys2Proof.Machine

open Safety

variable {s t : State}

/-- A step takes the first move of the agenda. -/
theorem step_of_agenda {m : Move} {rest : List Move} (h : s.agenda = m :: rest) :
    step s = takeMove m { s with agenda := rest } := by
  simp [step, h]

/-- A block operation that heads the agenda is executed. -/
theorem step_of_op {i : Instr} {rest : List Move} (h : s.agenda = .op i :: rest)
    (hi : i.frame? = none) : step s = exec i { s with agenda := rest } := by
  simp [step_of_agenda h, takeMove, hi]

/-- The SYS domain's turn at the head of the agenda. -/
theorem step_of_sys {rest : List Move} (h : s.agenda = .sys :: rest) :
    step s = sysStep { s with agenda := rest } := step_of_agenda h

/-- In DISPATCH the SYS domain's turn runs the decoded case (R132). -/
theorem sysStep_of_dispatch (hrun : s.halt = .run) (hfsm : s.fsm = .dispatch) :
    sysStep s = exec (decodeFrame s.cfg s.nodeAddr s.cur) s := by
  simp [sysStep, hrun, hfsm]

/-- The step that dispatches: the SYS domain's turn heads the agenda in DISPATCH (R132). -/
theorem step_of_dispatch {rest : List Move} (hagenda : s.agenda = .sys :: rest)
    (hrun : s.halt = .run) (hfsm : s.fsm = .dispatch) :
    step s = exec (decodeFrame s.cfg s.nodeAddr s.cur) { s with agenda := rest } :=
  (step_of_sys hagenda).trans (sysStep_of_dispatch hrun hfsm)

/-- With no poll in progress the SYS domain's turn passes. -/
theorem sysStep_passes (h : s.fsm = .idle ∨ s.fsm = .terminal) : sysStep s = .next s := by
  unfold sysStep
  rcases h with h | h <;> simp [h]

/-- An accepted POLL is its fetch (R28, R131). -/
theorem execPoll_accepted (hrun : s.halt = .run) (hacc : acceptsRequests s = true) :
    exec .poll s = .next (fetch (setPollReq (.taken ()) s)) := by
  obtain ⟨-, -, hans⟩ := acceptsRequests_iff.mp hacc
  exact request_accepted hrun hacc hans fun _ _ => rfl

theorem fetch_of_empty (h : s.rxRd = s.rxWrV) :
    fetch s = emit (.pollAck .nothingPending .none zeroFrame) (publishRd s) := by
  obtain ⟨-, hf⟩ | ⟨hne, -⟩ := fetch_cases s
  · exact hf
  · exact absurd h hne

theorem fetch_of_ne (h : s.rxRd ≠ s.rxWrV) : fetch s =
    { publishRd { s with rxRd := cursorInc s.rxRd } with
      cur := unpack (Memory.read Config.freeRxSlot s.rxMem s.rxRd.toNat)
      pend := none
      fsm := .dispatch } := by
  obtain ⟨hempty, -⟩ | ⟨-, hf⟩ := fetch_cases s
  · exact absurd hempty h
  · exact hf

/-! ### The agenda -/

theorem fetch_agenda (s : State) : (fetch s).agenda = s.agenda := by
  obtain ⟨-, hf⟩ | ⟨-, hf⟩ := fetch_cases s <;> rw [hf] <;> rfl

theorem sendResponse_agenda (w : WFrame) (s : State) : (sendResponse w s).agenda = s.agenda := by
  have hpath : (txPath w s).2.agenda = s.agenda := by
    obtain ⟨-, hp⟩ | ⟨-, -, hp⟩ | ⟨-, -, hp⟩ := txPath_cases w s <;> simp [hp]
  exact hpath

theorem sendResponse_halt (w : WFrame) (s : State) : (sendResponse w s).halt = s.halt :=
  (txPath_keepsLevels w s).halt

theorem DispatchEffect.agenda {f : Frame} (h : DispatchEffect s f t) : t.agenda = s.agenda := by
  cases h <;> rfl

/-! ### The end of a poll -/

/-- From `s` to `t` a poll has ended: in IDLE with one more acknowledge, or in TERMINAL with none (R152). -/
def PollEnded (s t : State) : Prop :=
  (t.fsm = .idle ∧ t.halt = .run ∧ pollAcks t.hist = pollAcks s.hist + 1) ∨
  (t.fsm = .terminal ∧ t.halt ≠ .run ∧ pollAcks t.hist = pollAcks s.hist)

/-- Once a poll has ended the SYS domain's turn passes. -/
theorem PollEnded.step_passes {rest : List Move} (h : PollEnded s t)
    (hagenda : t.agenda = .sys :: rest) : step t = .next { t with agenda := rest } :=
  (step_of_sys hagenda).trans (sysStep_passes (h.imp And.left And.left))

/-- From DISPATCH a poll ends within two SYS turns. -/
theorem poll_ends_of_dispatch {rest : List Move} (hrun : s.halt = .run) (hfsm : s.fsm = .dispatch)
    (hagenda : s.agenda = .sys :: .sys :: rest) :
    ∃ u t, step s = .next u ∧ step u = .next t ∧ t.agenda = rest ∧ PollEnded s t := by
  have hframe := classify_frame? s.cfg s.nodeAddr (fields s.cur)
  obtain ⟨u, hnext⟩ := exec_dispatches (s := { s with agenda := .sys :: rest }) hrun hfsm hframe
  have hfirst : step s = .next u := (step_of_dispatch hagenda hrun hfsm).trans hnext
  obtain ⟨-, -, heffect⟩ := exec_dispatchEffect hframe hnext
  have hturn : u.agenda = .sys :: rest := heffect.agenda
  obtain ⟨hidle, hhalt, -, r, w, hhist, -⟩ | ⟨hrespond, hhalt, hpend, -, hacks⟩ |
      ⟨hterminal, hhalt, hhist⟩ := dispatchOutcomes _ u _ _ hframe hnext
  · have hended : PollEnded s u := .inl ⟨hidle, hhalt, by simp [hhist]⟩
    exact ⟨u, _, hfirst, hended.step_passes hturn, rfl, hended⟩
  · obtain ⟨w, hw⟩ := Option.isSome_iff_exists.mp hpend
    have hended : PollEnded s (sendResponse w { u with agenda := rest }) :=
      .inl ⟨rfl, (sendResponse_halt w _).trans hhalt,
        (pollAcks_sendResponse w _).trans (congrArg (· + 1) hacks)⟩
    exact ⟨u, _, hfirst, (step_of_sys hturn).trans (sysStep_of_respond hhalt hrespond hw),
      sendResponse_agenda w _, hended⟩
  · have hended : PollEnded s u :=
      .inr ⟨hterminal, hhalt, by rcases hhist with hhist | hhist <;> simp [hhist]⟩
    exact ⟨u, _, hfirst, hended.step_passes hturn, rfl, hended⟩

/-- After the fetch a poll has ended, and the turns pass, or it ends within two SYS turns (R131). -/
theorem poll_ends_of_fetch {rest : List Move} (hrun : s.halt = .run) (hidle : s.fsm = .idle)
    (hagenda : s.agenda = .sys :: .sys :: rest) :
    ∃ u t, step (fetch s) = .next u ∧ step u = .next t ∧ t.agenda = rest ∧ PollEnded s t := by
  have hturns := (fetch_agenda s).trans hagenda
  by_cases hempty : s.rxRd = s.rxWrV
  · have hended : PollEnded s (fetch s) := by
      rw [fetch_of_empty hempty]
      exact .inl ⟨hidle, hrun, pollAcks_append s.hist _⟩
    have hwaits : PollEnded s { fetch s with agenda := .sys :: rest } := hended
    exact ⟨_, _, hended.step_passes hturns, hwaits.step_passes rfl, rfl, hended⟩
  · have hfetch := fetch_of_ne hempty
    have hhist : (fetch s).hist = s.hist := (congrArg State.hist hfetch).trans rfl
    have hends := poll_ends_of_dispatch ((congrArg State.halt hfetch).trans hrun)
      (congrArg State.fsm hfetch) hturns
    simpa only [PollEnded, hhist] using hends

end Sys2Proof.Machine
end

section
/-! SUPPORT. Which moves can find the dispatcher stuck (R19): none, from a state with the invariant. -/

namespace Sys2Proof.Machine

open Safety

variable {s : State}

/-- The outcome is neither of the dispatcher's internal faults. -/
def Unstuck (o : Result) : Prop :=
  o ≠ .fault .stuckNotDispatching ∧ o ≠ .fault .stuckNoResponse

theorem unstuck_next (t : State) : Unstuck (.next t) := ⟨nofun, nofun⟩

/-- A request stops, if at all, with `stuckTerminal` or `stuckRequestChanged`. -/
theorem unstuck_request {α : Type} [DecidableEq α] (line : ReqLine α) (answered : Bool)
    (setLine : ReqLine α → State → State) (a : α) (accept : State → State) (s : State) :
    Unstuck (request line answered setLine a accept s) := by
  unfold request
  split
  · exact ⟨nofun, nofun⟩
  · split
    · exact ⟨nofun, nofun⟩
    · split <;> exact unstuck_next _

/-- A presented level stops, if at all, with one of the handshake's faults. -/
theorem unstuck_driveRequest {α : Type} [DecidableEq α] (line : ReqLine α) (answered : Bool)
    (setLine : ReqLine α → State → State) (level : Option α) (s : State) :
    Unstuck (driveRequest line answered setLine level s) := by
  unfold driveRequest
  split <;> split <;> exact ⟨nofun, nofun⟩

theorem unstuck_whileRunning (s : State) (body : State → State) :
    Unstuck (whileRunning s body) := by
  unfold whileRunning
  split <;> exact ⟨nofun, nofun⟩

/-- A block operation knows nothing of the dispatcher. -/
theorem unstuck_exec_op {i : Instr} (hi : i.frame? = none) (s : State) : Unstuck (exec i s) := by
  cases i <;> cases hi
  case encode | decode => exact unstuck_next _
  case breq | poll | submit => exact unstuck_request _ _ _ _ _ s
  case rx w => exact unstuck_whileRunning s (rxPush (clampFrame w))
  case syncW => exact unstuck_whileRunning s (fun s => { s with rxWrV := s.rxWr })
  case syncR => exact unstuck_whileRunning s (fun s => { s with rxRdV := s.rxRd })
  case init =>
    show Unstuck (execInit _ s)
    unfold execInit
    split
    · exact ⟨nofun, nofun⟩
    · split <;> exact ⟨nofun, nofun⟩
  case txdoneC =>
    show Unstuck (execTxdoneC s)
    unfold execTxdoneC
    split <;> exact ⟨nofun, nofun⟩
  case txdoneH =>
    show Unstuck (execTxdoneH s)
    unfold execTxdoneH
    split
    · exact ⟨nofun, nofun⟩
    · split <;> exact ⟨nofun, nofun⟩

/-- The SYS domain's turn finds a frame in DISPATCH and a response in RESPOND (R19). -/
theorem unstuck_sysStep (h : Inv s) : Unstuck (sysStep s) := by
  by_cases hrun : s.halt = .run
  · cases hfsm : s.fsm with
    | idle => exact sysStep_passes (.inl hfsm) ▸ unstuck_next s
    | terminal => exact sysStep_passes (.inr hfsm) ▸ unstuck_next s
    | dispatch =>
      obtain ⟨t, hnext⟩ := exec_dispatches hrun hfsm (classify_frame? s.cfg s.nodeAddr _)
      exact ((sysStep_of_dispatch hrun hfsm).trans hnext) ▸ unstuck_next t
    | respond =>
      obtain ⟨w, hpend⟩ := Option.isSome_iff_exists.mp (h.respondPend.mp hfsm)
      exact sysStep_of_respond hrun hfsm hpend ▸ unstuck_next _
  · exact sysStep_passes (.inr (h.terminalHalt.mpr hrun)) ▸ unstuck_next s

/-- Sampling a request port runs a request or does nothing (R28). -/
theorem unstuck_serveRequest (p : ReqPort) (s : State) : Unstuck (serveRequest p s) := by
  cases p with
  | poll => cases hl : s.pollReq with
    | raised => simpa only [serveRequest, hl] using unstuck_exec_op rfl s
    | low | taken => simpa only [serveRequest, hl] using unstuck_next s
  | submit => cases hl : s.subReq with
    | raised w => simpa only [serveRequest, hl] using unstuck_exec_op rfl s
    | low | taken => simpa only [serveRequest, hl] using unstuck_next s
  | breq => cases hl : s.breqReq with
    | raised a => simpa only [serveRequest, hl] using unstuck_exec_op rfl s
    | low | taken => simpa only [serveRequest, hl] using unstuck_next s

theorem unstuck_submitBuilt (dlc : BitVec 4) (data : BitVec 64) (s : State) :
    Unstuck (submitBuilt dlc data s) := by
  unfold submitBuilt
  split
  · exact unstuck_next s
  · split
    · exact unstuck_exec_op rfl s
    · exact unstuck_next s

/-- No move finds the dispatcher stuck. -/
theorem unstuck_takeMove (h : Inv s) (m : Move) : Unstuck (takeMove m s) := by
  cases m with
  | op i =>
    simp only [takeMove]
    split
    case isTrue => exact ⟨nofun, nofun⟩
    case isFalse hi => exact unstuck_exec_op (Option.not_isSome_iff_eq_none.mp hi) s
  | sys => exact unstuck_sysStep h
  | serve p => exact unstuck_serveRequest p s
  | drivePoll | driveSub | driveBreq => exact unstuck_driveRequest _ _ _ _ s
  | submitBuilt dlc data => exact unstuck_submitBuilt dlc data s
  | setResetCause | assertResets => exact unstuck_next _
  | assertOneReset => exact ⟨nofun, nofun⟩

end Sys2Proof.Machine
end

section
/-! Settled statements: the turns of a poll (42_dispatcher.md). -/

namespace Sys2Proof.Machine

open Safety

/-- Settles O11: the move is the agenda's first. -/
theorem stepRunsDecodedInstruction : Obligations.StepRunsDecodedInstruction :=
  ⟨fun _ _ => step_of_dispatch, fun _ _ _ => step_of_op⟩

/-- Settles O12, by the transmit path's result. -/
theorem respondStepSubmitsResponse : Obligations.RespondStepSubmitsResponse := by
  rintro s w v rest hagenda hrun hfsm hpend rfl
  have hstep : step s = .next (sendResponse w { s with agenda := rest }) :=
    (step_of_sys hagenda).trans (sysStep_of_respond hrun hfsm hpend)
  rw [hstep, sendResponse]
  refine ⟨fun hfree => ?sent, fun hbusy hroom => ?queued, fun hbusy hfull => ?dropped⟩
  case sent =>
    rw [txPath_of_free (s := { s with agenda := rest }) w hfree, startTx_hist, List.append_assoc]
    rfl
  case queued =>
    rw [txPath_of_room (s := { s with agenda := rest }) w hbusy hroom]
    exact ⟨_, rfl, Memory.read_write_same _ _ _ _, fun _ hk => Memory.read_write_other _ _ _ hk⟩
  case dropped =>
    rw [txPath_of_full (s := { s with agenda := rest }) w hbusy hfull]
    rfl

/-- Settles O33, by what the SYS view shows. -/
theorem pollFetchesOneEntry : Obligations.PollFetchesOneEntry := by
  intro s hrun hacc
  rw [execPoll_accepted hrun hacc]
  refine ⟨fun hempty => ?nothing, fun hne => ?fetched⟩
  case nothing => exact congrArg _ (fetch_of_empty (s := setPollReq (.taken ()) s) hempty)
  case fetched => exact congrArg _ (fetch_of_ne (s := setPollReq (.taken ()) s) hne)

/-- Settles O13: the POLL is its fetch, and the two turns after it end the poll. -/
theorem pollEndsInThreeTurns : Obligations.PollEndsInThreeTurns := by
  intro s rest _ hrun hacc hagenda
  obtain ⟨-, hidle, -⟩ := acceptsRequests_iff.mp hacc
  have hfetch := (step_of_op hagenda rfl).trans (execPoll_accepted hrun hacc)
  obtain ⟨u, t, hsecond, hthird, hrest, hended⟩ := poll_ends_of_fetch
    (s := setPollReq (.taken ()) { s with agenda := .sys :: .sys :: rest }) hrun hidle rfl
  exact ⟨_, u, t, hfetch, hsecond, hthird, hrest, hended⟩

/-- Settles O16: a chosen move finds no fault of the dispatcher, and a drawn one stops nothing. -/
theorem dispatcherNeverStuck : Obligations.DispatcherNeverStuck := by
  intro s h
  unfold step
  split
  case h_1 m rest _ =>
    have hrest : Inv { s with agenda := rest } := { h with }
    exact unstuck_takeMove hrest m
  case h_2 =>
    obtain ⟨t, hnext, -⟩ := takeDrawn_next (Config.draw s.draws) { s with draws := s.draws + 1 }
    exact hnext ▸ unstuck_next t

end Sys2Proof.Machine
end

section
/-! SUPPORT. Two frames that differ in unused data bytes alone (93_implementation_defined.md I3) have the same operands, the
same row and the same fate. -/

namespace Sys2Proof.Machine

open Safety

variable {s : State} {f g : Frame}

/-! ### The operands -/

/-- The register index is a used byte of a frame that is not empty (R67). -/
theorem regIndex_congr (h : sameUpToUnused f g) (hdlc : 0 < f.dlc.toNat) :
    regIndex f = regIndex g := by
  obtain ⟨-, -, -, -, -, -, hdata⟩ := h
  rw [regIndex, regIndex, hdata 0 hdlc]

/-- The address value is in used bytes of a frame of length 3 (R68). -/
theorem addrOperand_congr (h : sameUpToUnused f g) (hdlc : f.dlc = 3) :
    addrOperand f = addrOperand g := by
  obtain ⟨-, -, -, -, -, -, hdata⟩ := h
  rw [addrOperand, addrOperand, hdata 1 (by simp [hdlc]), hdata 2 (by simp [hdlc])]

/-- The wire forms differ in the unused data bytes alone. -/
theorem sameWireUpToUnused_wire (h : sameUpToUnused f g) :
    sameWireUpToUnused (wire f) (wire g) := by
  obtain ⟨hprio, htyp, hseq, hdst, hsrc, hdlc, hdata⟩ := h
  refine ⟨?_, hdlc, hdata⟩
  rw [wire, wire, hprio, htyp, hseq, hdst, hsrc]

/-- A response takes the request's sequence number and source alone (R149). -/
theorem respond_congr (h : sameUpToUnused f g) (typ : MsgType) (payload : List Byte) (s : State) :
    respond typ payload f s = respond typ payload g s := by
  obtain ⟨-, -, hseq, -, hsrc, -, -⟩ := h
  rw [respond, respond, responseFrame, responseFrame, hseq, hsrc]

theorem raiseError_congr (h : sameUpToUnused f g) (e : ErrName) (s : State) :
    raiseError e f s = raiseError e g s := respond_congr h _ _ s

theorem writeNodeId_congr (h : sameUpToUnused f g) (s : State) :
    writeNodeId f s = writeNodeId g s := by
  obtain ⟨-, -, -, -, -, hlen, -⟩ := id h
  unfold writeNodeId
  rw [← hlen]
  by_cases hdlc : f.dlc = 3
  · rw [if_neg (not_not.mpr hdlc), if_neg (not_not.mpr hdlc), ← addrOperand_congr h hdlc,
      raiseError_congr h, reply, reply, respond_congr h]
  · rw [if_pos hdlc, if_pos hdlc, raiseError_congr h]

theorem readRegister_congr (h : sameUpToUnused f g) (hdlc : 0 < f.dlc.toNat) (s : State) :
    readRegister f s = readRegister g s := by
  have hindex := regIndex_congr h hdlc
  obtain ⟨-, -, -, -, -, -, hdata⟩ := id h
  rw [readRegister, readRegister, hindex, hdata 0 hdlc, reply, reply, respond_congr h]

/-! ### The fate of a state -/

/-- `t` and `u` both come from `s` by events that agree up to the unused bytes, and are else the same state. -/
def AgreeUpToUnused (s t u : State) : Prop :=
  ∃ l l', t.hist = s.hist ++ l ∧ List.Forall₂ sameEventUpToUnused l l' ∧
    u = { t with hist := s.hist ++ l' }

/-- A state that a dispatch case leads to agrees with itself. -/
theorem AgreeUpToUnused.of_effect {t : State} (h : DispatchEffect s f t) :
    AgreeUpToUnused s t t := by
  obtain ⟨l, hhist⟩ : ∃ l, t.hist = s.hist ++ l := by
    cases h with
    | responded => exact ⟨[], (List.append_nil _).symm⟩
    | ended | stored | reset | upgrade => exact ⟨[_], rfl⟩
  exact ⟨l, l, hhist, List.forall₂_same.mpr fun e _ => .inl rfl, hhist ▸ rfl⟩

/-- A poll that ends by handing the frame on. -/
theorem agree_finishPoll (h : sameUpToUnused f g) (r : PollResult) (s : State) :
    AgreeUpToUnused s (finishPoll r (wire f) s) (finishPoll r (wire g) s) :=
  ⟨_, [.pollAck r .none (wire g)], finishPoll_hist r (wire f) s,
    .cons (.inr ⟨r, .none, _, _, rfl, rfl, sameWireUpToUnused_wire h⟩) .nil, rfl⟩

theorem agree_respond (h : sameUpToUnused f g) (typ : MsgType) (payload : List Byte) (s : State) :
    AgreeUpToUnused s (respond typ payload f s) (respond typ payload g s) :=
  respond_congr h typ payload s ▸ .of_effect (.responded (f := f) typ payload)

theorem agree_writeNodeId (h : sameUpToUnused f g) (s : State) :
    AgreeUpToUnused s (writeNodeId f s) (writeNodeId g s) :=
  writeNodeId_congr h s ▸ .of_effect (dispatchEffect_writeNodeId f s)

theorem agree_readRegister (h : sameUpToUnused f g) (hdlc : 0 < f.dlc.toNat) (s : State) :
    AgreeUpToUnused s (readRegister f s) (readRegister g s) :=
  readRegister_congr h hdlc s ▸ .of_effect (f := f) (.responded _ _)

/-- The dispatch cases `i` and `j` lead `s` to states that agree. -/
def SameFate (s : State) (i j : Instr) : Prop :=
  ∀ t, exec i s = .next t → ∃ u, exec j s = .next u ∧ AgreeUpToUnused s t u

/-- Two dispatch cases with bodies that agree on `s`. -/
theorem SameFate.of_bodies {i j : Instr} {body body' : State → State}
    (hi : exec i s = dispatching s body) (hj : exec j s = dispatching s body')
    (h : AgreeUpToUnused s (body s) (body' s)) : SameFate s i j := by
  intro t hnext
  obtain ⟨hrun, hfsm, rfl⟩ := dispatching_next.mp (hi.symm.trans hnext)
  exact ⟨_, hj.trans (dispatching_next.mpr ⟨hrun, hfsm, rfl⟩), h⟩

/-- Two dispatch cases that answer the same error. -/
theorem SameFate.of_raiseError {i j : Instr} (h : sameUpToUnused f g) (e : ErrName)
    (hi : exec i s = dispatching s (raiseError e f)) (hj : exec j s = dispatching s (raiseError e g)) :
    SameFate s i j :=
  .of_bodies hi hj (agree_respond h .error [errCodeOf s.cfg e] s)

/-- Two dispatch cases that hand their frame on. -/
theorem SameFate.of_finishPoll {i j : Instr} (h : sameUpToUnused f g) (r : PollResult)
    (hi : exec i s = dispatching s (finishPoll r (wire f)))
    (hj : exec j s = dispatching s (finishPoll r (wire g))) : SameFate s i j :=
  .of_bodies hi hj (agree_finishPoll h r s)

/-! ### The rows -/

theorem sameFate_decodeRule1 (h : sameUpToUnused f g) (c : Cfg) (s : State) :
    SameFate s (decodeRule1 c f) (decodeRule1 c g) := by
  obtain ⟨-, htyp, -, -, -, hdlc, -⟩ := id h
  unfold decodeRule1
  rw [← htyp, ← hdlc]
  split_ifs
  · exact .of_bodies (execDiscover_eq f s) (execDiscover_eq g s) (agree_respond h _ _ s)
  · exact .of_bodies (body := trigger .resetTriggered .resetTrigger) rfl rfl
      (.of_effect (f := f) .reset)
  · exact .of_raiseError h .invalidMsg rfl rfl

theorem sameFate_decodeSetReg (h : sameUpToUnused f g) (hdlc : 0 < f.dlc.toNat) (c : Cfg)
    (s : State) : SameFate s (decodeSetReg c f) (decodeSetReg c g) := by
  have hindex := regIndex_congr h hdlc
  unfold decodeSetReg
  rw [← hindex]
  split_ifs with hge
  · exact .of_finishPoll h .delegate (execSetReg_of_ge hge) (execSetReg_of_ge (hindex ▸ hge))
  · exact .of_bodies (body := writeNodeId f) (body' := writeNodeId g) rfl rfl
      (agree_writeNodeId h s)
  · exact .of_raiseError h .invalidRegister rfl rfl
  · exact .of_raiseError h .readOnlyRegister rfl rfl

theorem sameFate_decodeGetReg (h : sameUpToUnused f g) (hdlc : 0 < f.dlc.toNat) (c : Cfg)
    (s : State) : SameFate s (decodeGetReg c f) (decodeGetReg c g) := by
  have hindex := regIndex_congr h hdlc
  unfold decodeGetReg
  rw [← hindex]
  split_ifs with hge
  · exact .of_finishPoll h .delegate (execGetReg_of_ge hge) (execGetReg_of_ge (hindex ▸ hge))
  · exact .of_raiseError h .invalidRegister rfl rfl
  · exact .of_bodies (body := readRegister f) (body' := readRegister g) rfl rfl
      (agree_readRegister h hdlc s)

theorem sameFate_nodeUpgrade (h : sameUpToUnused f g) (s : State) :
    SameFate s (.nodeUpgrade f) (.nodeUpgrade g) := by
  refine .of_bodies (show execNodeUpgrade f s = _ from rfl)
    (show execNodeUpgrade g s = _ from rfl) ?_
  split
  · exact .of_effect (f := f) .upgrade
  · exact agree_respond h _ _ s

theorem sameFate_decodeRule2 (h : sameUpToUnused f g) (c : Cfg) (s : State) :
    SameFate s (decodeRule2 c f) (decodeRule2 c g) := by
  obtain ⟨-, htyp, -, -, -, hdlc, -⟩ := id h
  unfold decodeRule2
  rw [← htyp, ← hdlc]
  split_ifs with hset hget
  · exact sameFate_decodeSetReg h (Nat.lt_of_succ_lt (BitVec.lt_def.mp hset.2)) c s
  · exact sameFate_decodeGetReg h (by simp [hget]) c s
  · exact sameFate_nodeUpgrade h s
  · exact .of_finishPoll h .delegate rfl rfl
  · exact .of_finishPoll h .delegate rfl rfl
  · exact .of_finishPoll h .delegate rfl rfl
  · exact .of_raiseError h .invalidMsg rfl rfl

/-- The decoder's tests read used bytes alone, and so do the rows they select. -/
theorem sameFate_classify (h : sameUpToUnused f g) (c : Cfg) (self : Addr) (s : State) :
    SameFate s (classify c self f) (classify c self g) := by
  obtain ⟨-, htyp, -, hdst, hsrc, -, -⟩ := id h
  unfold classify
  rw [← htyp, ← hdst, ← hsrc]
  split_ifs
  · exact .of_bodies (body := finishPoll .rejected zeroFrame) rfl rfl
      (.of_effect (f := f) (.ended (.inr (.inr rfl)) zeroFrame))
  · exact sameFate_decodeRule1 h c s
  · exact sameFate_decodeRule2 h c s
  · exact .of_finishPoll h .passThrough rfl rfl
  · exact .of_raiseError h .invalidMsg rfl rfl

end Sys2Proof.Machine
end

section
/-! Settled statements: the unused data bytes (93_implementation_defined.md I3). -/

namespace Sys2Proof.Machine

/-- Settles O53: the decoder and every row read the used bytes alone. -/
theorem unusedDataBytesNeverRead : Obligations.UnusedDataBytesNeverRead := by
  intro s t f g h hnext
  obtain ⟨_, hother, l, l', hhist, hsame, rfl⟩ := sameFate_classify h s.cfg s.nodeAddr s t hnext
  exact ⟨l, l', hhist, hsame, hother⟩

end Sys2Proof.Machine
end

section
/-! SUPPORT. The two BUS handlers side by side (R177): the receive handler works on the RX FIFO, the transmit-complete
handler on the TX FIFO and the channel. -/

namespace Sys2Proof.Machine

theorem rxPush_keepsOwned (w : WFrame) (s : State) : KeepsOwned
    { s with rxMem := (rxPush w s).rxMem, rxWr := (rxPush w s).rxWr } (rxPush w s) := by
  rcases rxPush_cases w s with ⟨-, h⟩ | ⟨-, h⟩ <;> rw [h] <;> constructor <;> rfl

/-- Neither handler moves a cursor the other tests, so each takes the same branch before and after the other. -/
theorem completeTx_rxPush (w : WFrame) (s : State) :
    completeTx (rxPush w s) = rxPush w (completeTx s) := by
  by_cases hfull : cursorInc s.rxWr = s.rxRdV <;> by_cases hempty : s.txRd = s.txWr
  · rw [rxPush_of_full w hfull, completeTx_of_empty hempty, completeTx_of_empty, rxPush_of_full]
    exacts [rfl, hfull, hempty]
  · rw [rxPush_of_full w hfull, completeTx_of_ne hempty, completeTx_of_ne, rxPush_of_full]
    exacts [rfl, hfull, hempty]
  · rw [rxPush_of_room w hfull, completeTx_of_empty hempty, completeTx_of_empty, rxPush_of_room]
    exacts [rfl, hfull, hempty]
  · rw [rxPush_of_room w hfull, completeTx_of_ne hempty, completeTx_of_ne, rxPush_of_room]
    exacts [rfl, hfull, hempty]

end Sys2Proof.Machine
end

section
/-! Settled statements: the order of the BUS handlers and the completion (60_exceptions.md). -/

namespace Sys2Proof.Machine

/-- Settles O30, by the frame in flight. -/
theorem completionLatchesPending : Obligations.CompletionLatchesPending := by
  intro s
  refine ⟨fun w hsending => ?completes, fun hidle => ?stuck⟩
  case completes => exact execTxdoneC_next.mpr ⟨⟨w, hsending⟩, rfl⟩
  case stuck =>
    show execTxdoneC s = _
    rw [execTxdoneC, hidle]

/-- Settles O31: each handler leaves the other enabled, and their effects commute. -/
theorem busHandlersCommute : Obligations.BusHandlersCommute := by
  intro s w hrun hpending
  have hkept := rxPush_keepsOwned (clampFrame w) s
  have hdone : exec .txdoneH (rxPush (clampFrame w) s) =
      .next (completeTx (rxPush (clampFrame w) s)) :=
    execTxdoneH_next.mpr ⟨hkept.halt.trans hrun, hkept.txdonePending.trans hpending, rfl⟩
  have hreceived : exec (.rx w) (completeTx s) = .next (completeTx (rxPush (clampFrame w) s)) :=
    whileRunning_next.mpr
      ⟨(completeTx_keepsLevels s).halt.trans hrun, completeTx_rxPush (clampFrame w) s⟩
  exact ⟨_, _, _, whileRunning_next.mpr ⟨hrun, rfl⟩, hdone,
    execTxdoneH_next.mpr ⟨hrun, hpending, rfl⟩, hreceived⟩

end Sys2Proof.Machine
end

section
/-! SUPPORT. The rows of a frame that rule 1 or rule 2 takes (R133), by its type and length: no request stands in both
groups, so its type tells the rule. -/

namespace Sys2Proof

open Sys2Proof.Machine

variable {c : Cfg} {self : Addr} {f : Frame}

/-- Rule 1 or rule 2 takes the frames for this node whose type is in the rule's group (R133). -/
theorem isRule1_or_isRule2_iff (hsrc : f.src ≠ bcast) :
    (isRule1 c self f = true ∨ isRule2 c self f = true) ↔
      (inBcast c f.typ = true ∧ (f.dst = self ∨ f.dst = bcast)) ∨
      (inNode c f.typ = true ∧ f.dst = self) := by
  constructor
  · rintro (h1 | h2)
    · obtain ⟨-, hbcast⟩ := isRule1_iff.mp h1
      exact .inl hbcast
    · obtain ⟨-, -, hnode⟩ := isRule2_iff.mp h2
      exact .inr hnode
  · rintro (hbcast | hnode)
    · exact .inl (isRule1_iff.mpr ⟨hsrc, hbcast⟩)
    · cases h : isRule1 c self f with
      | true => exact .inl rfl
      | false => exact .inr (isRule2_iff.mpr ⟨hsrc, h, hnode⟩)

/-- A frame of neither rule and outside the all-remote-node group matches no rule (R148). -/
theorem classify_of_no_group (hsrc : f.src ≠ bcast) (hremote : ¬ inRemote c f.typ = true)
    (h : ¬ (isRule1 c self f = true ∨ isRule2 c self f = true)) :
    classify c self f = .noMatch f := by
  obtain ⟨h1, h2⟩ := not_or.mp h
  rw [classify_of_not_isRule2 hsrc (Bool.eq_false_iff.mpr h1) (Bool.eq_false_iff.mpr h2),
    if_neg hremote]

section
variable (hc : c.wf = true) (h : isRule1 c self f = true ∨ isRule2 c self f = true)
include hc h

/-- Of the two rules, rule 1 takes the requests to every node. -/
theorem isRule1_of_everyNode {t : MsgType} (ht : t = .discover ∨ t = .nodeReset)
    (htyp : f.typ = typeCodeOf c t) : isRule1 c self f = true := by
  refine h.resolve_right fun h2 => ?_
  obtain ⟨-, -, hnode, -⟩ := isRule2_iff.mp h2
  have hout := Cfg.inBcast_eq_false_of_wf hc (.inl hnode)
  rw [htyp, Cfg.inBcast_of_wf hc ht] at hout
  cases hout

/-- Of the two rules, rule 2 takes the requests to one node. -/
theorem isRule2_of_oneNode {t : MsgType} (ht : t ∈ MsgType.nodeRequests)
    (htyp : f.typ = typeCodeOf c t) : isRule2 c self f = true := by
  refine h.resolve_left fun h1 => ?_
  have hnode : inNode c f.typ = true := htyp ▸ Cfg.inNode_of_wf hc ht
  rw [isRule1_eq_false (Cfg.inBcast_eq_false_of_wf hc (.inl hnode))] at h1
  cases h1

end

/-- A frame that rule 1 or rule 2 takes and that is in no row falls through to its rule's INVALID_MSG case (R136, R146). -/
theorem classify_of_no_row (h : isRule1 c self f = true ∨ isRule2 c self f = true)
    (hdiscover : ¬ (f.typ = typeCodeOf c .discover ∧ f.dlc = 0))
    (hreset : ¬ (f.typ = typeCodeOf c .nodeReset ∧ f.dlc = 0))
    (hupgrade : ¬ (f.typ = typeCodeOf c .nodeUpgrade ∧ f.dlc = 0))
    (hbitOp : ¬ ((f.typ = typeCodeOf c .setBit ∨ f.typ = typeCodeOf c .clearBit ∨
      f.typ = typeCodeOf c .toggleBit) ∧ f.dlc = 2))
    (hreg : ¬ ((f.typ = typeCodeOf c .setReg ∧ 1 < f.dlc) ∨
      (f.typ = typeCodeOf c .getReg ∧ f.dlc = 1))) :
    classify c self f = .bcastInvalid f ∨ classify c self f = .nodeInvalid f := by
  rcases h with h1 | h2
  · left
    rw [classify_of_isRule1 h1, decodeRule1, if_neg hdiscover, if_neg hreset]
  · right
    simp only [or_and_right, not_or] at hbitOp hreg
    obtain ⟨hsetBit, hclearBit, htoggleBit⟩ := hbitOp
    obtain ⟨hset, hget⟩ := hreg
    rw [classify_of_isRule2 h2, decodeRule2, if_neg hset, if_neg hget, if_neg hupgrade,
      if_neg hsetBit, if_neg hclearBit, if_neg htoggleBit]

end Sys2Proof
end

section
/-! SUPPORT. The index dispatch of the decoder and that of the meaning are one (R137, R141), and what a decoded frame of
rules 1 and 2 answers, by its type and length (R134 to R146). -/

namespace Sys2Proof.Machine

open Safety

variable {s : State} {f : Frame}

/-- Each index row of SET_REG does what SET_REG does for its index. -/
theorem exec_decodeSetReg (f : Frame) (s : State) :
    exec (decodeSetReg s.cfg f) s = exec (.setReg f) s := by
  unfold decodeSetReg
  split_ifs with hidx hnode hfree
  · rfl
  · exact (execSetReg_of_nodeId (Nat.not_le.mp hidx) hnode).symm
  · exact (execSetReg_of_unassigned (Nat.not_le.mp hidx) hfree).symm
  · exact (execSetReg_of_readOnly (Nat.not_le.mp hidx) hnode hfree).symm

/-- Each index row of GET_REG does what GET_REG does for its index. -/
theorem exec_decodeGetReg (f : Frame) (s : State) :
    exec (decodeGetReg s.cfg f) s = exec (.getReg f) s := by
  unfold decodeGetReg
  split_ifs with hidx hfree
  · rfl
  · exact (execGetReg_of_unassigned (Nat.not_le.mp hidx) hfree).symm
  · exact (execGetReg_of_assigned (Nat.not_le.mp hidx) hfree).symm

section
variable (hc : s.cfg.wf = true)
  (hrule : isRule1 s.cfg s.nodeAddr f = true ∨ isRule2 s.cfg s.nodeAddr f = true)
include hc hrule

theorem exec_classify_of_setReg (hrow : f.typ = typeCodeOf s.cfg .setReg ∧ 1 < f.dlc) :
    exec (classify s.cfg s.nodeAddr f) s = exec (.setReg f) s := by
  have h2 := isRule2_of_oneNode hc hrule (t := .setReg) (by decide) hrow.1
  rw [classify_of_isRule2 h2, decodeRule2_of_isSetReg (isSetReg_iff.mpr hrow), exec_decodeSetReg]

theorem exec_classify_of_getReg (hrow : f.typ = typeCodeOf s.cfg .getReg ∧ f.dlc = 1) :
    exec (classify s.cfg s.nodeAddr f) s = exec (.getReg f) s := by
  have h2 := isRule2_of_oneNode hc hrule (t := .getReg) (by decide) hrow.1
  rw [classify_of_isRule2 h2, decodeRule2_of_isGetReg (isGetReg_iff.mpr hrow), exec_decodeGetReg]

theorem exec_classify_of_nodeUpgrade (hrow : f.typ = typeCodeOf s.cfg .nodeUpgrade ∧ f.dlc = 0) :
    exec (classify s.cfg s.nodeAddr f) s = exec (.nodeUpgrade f) s := by
  have h2 := isRule2_of_oneNode hc hrule (t := .nodeUpgrade) (by decide) hrow.1
  rw [classify_of_isRule2 h2, decodeRule2_of_isUpgrade (isUpgrade_iff.mpr hrow)]

theorem exec_classify_of_discover (hrow : f.typ = typeCodeOf s.cfg .discover ∧ f.dlc = 0) :
    exec (classify s.cfg s.nodeAddr f) s = exec (.discover f) s := by
  have h1 := isRule1_of_everyNode hc hrule (t := .discover) (.inl rfl) hrow.1
  rw [classify_of_isRule1 h1, decodeRule1, if_pos hrow]

theorem exec_classify_of_nodeReset (hrow : f.typ = typeCodeOf s.cfg .nodeReset ∧ f.dlc = 0) :
    exec (classify s.cfg s.nodeAddr f) s = exec (.nodeReset f) s := by
  have h1 := isRule1_of_everyNode hc hrule (t := .nodeReset) (.inr rfl) hrow.1
  have hother : f.typ ≠ typeCodeOf s.cfg .discover := fun htyp =>
    absurd (typeCodeOf_injective hc (a₁ := .nodeReset) (hrow.1.symm.trans htyp)) (by decide)
  rw [classify_of_isRule1 h1, decodeRule1, if_neg fun h => hother h.1, if_pos hrow]

/-- A bit operation of two bytes is delegated, whichever of the three it is (R145). -/
theorem exec_classify_of_bitOp (hrun : s.halt = .run) (hfsm : s.fsm = .dispatch)
    (hrow : (f.typ = typeCodeOf s.cfg .setBit ∨ f.typ = typeCodeOf s.cfg .clearBit ∨
      f.typ = typeCodeOf s.cfg .toggleBit) ∧ f.dlc = 2) :
    exec (classify s.cfg s.nodeAddr f) s = .next (acknowledged .delegate (wire f) s) := by
  obtain ⟨htyp, hdlc⟩ := hrow
  obtain ⟨t, ht, hcode⟩ : ∃ t : MsgType, (t = .setBit ∨ t = .clearBit ∨ t = .toggleBit) ∧
      f.typ = typeCodeOf s.cfg t := by simpa using htyp
  have hnode : t ∈ MsgType.nodeRequests := by rcases ht with rfl | rfl | rfl <;> decide
  obtain ⟨hsrc, -, -, hdst⟩ := isRule2_iff.mp (isRule2_of_oneNode hc hrule hnode hcode)
  rw [classify_bitOp hc ht hsrc hdst hdlc hcode]
  split_ifs <;> exact dispatching_of hrun hfsm (finishPoll_eq_acknowledged .delegate (wire f) s)

end

/-- One test of a chain of conditions on a next state. -/
theorem eq_next_ite {o : Result} {p : Prop} [Decidable p] {t u : State} (hpos : p → o = .next t)
    (hneg : ¬ p → o = .next u) : o = .next (if p then t else u) := by
  split
  case isTrue h => exact hpos h
  case isFalse h => exact hneg h

end Sys2Proof.Machine
end

section
/-! Settled statements: the precedence of the conditions on a frame (60_exceptions.md). -/

namespace Sys2Proof.Machine

open Safety

/-- Settles O50: test by test, the row the decoder gives the frame and what that row answers. -/
theorem dispatchPrecedence : Obligations.DispatchPrecedence := by
  intro s f hrun hfsm hf hc
  have hwire : wire f = s.cur := hf ▸ wire_fields s.cur
  obtain ⟨hbcastInvalid, hnodeInvalid, hnoMatch⟩ := fallThroughsAnswerInvalidMsg s f hrun hfsm
  obtain ⟨hsetHigh, hsetNodeId, hsetFree, hsetReadOnly⟩ := setRegDispatchesOnIndex s f hrun hfsm
  obtain ⟨hgetHigh, hgetFree, hgetStandard⟩ := getRegDispatchesOnIndex s f hrun hfsm
  rw [sysStep_of_dispatch hrun hfsm, decodeFrame, ← hf]
  refine eq_next_ite (fun hsrc => ?broadcastSource) fun hsrc => ?_
  case broadcastSource =>
    obtain ⟨hrow, hanswer⟩ := broadcastSourceRejected s f hrun hfsm
    rw [hrow hsrc, hanswer]
  refine eq_next_ite (fun hremote => ?remoteGroup) fun hremote => ?_
  case remoteGroup =>
    obtain ⟨hrow, hanswer⟩ := remoteGroupPassedThrough s f hrun hfsm
    rw [hrow hc hsrc hremote, hanswer, hwire]
  have hgroups := isRule1_or_isRule2_iff (c := s.cfg) (self := s.nodeAddr) hsrc
  refine eq_next_ite (fun hgroup => ?noGroup) fun hgroup => ?_
  case noGroup => rw [classify_of_no_group hsrc hremote (mt hgroups.mp hgroup), hnoMatch]
  have hrule := hgroups.mpr (not_not.mp hgroup)
  refine eq_next_ite (fun hrow => ?discover) fun hdiscover => ?_
  case discover =>
    rw [exec_classify_of_discover hc hrule hrow]
    exact (execDiscover_eq f s).trans
      (dispatching_of hrun hfsm (respond_eq_answered .nodeInfo _ f s))
  refine eq_next_ite (fun hrow => ?nodeReset) fun hreset => ?_
  case nodeReset =>
    rw [exec_classify_of_nodeReset hc hrule hrow]
    exact (nodeResetIsTerminal s f hrun hfsm).2
  refine eq_next_ite (fun hrow => ?nodeUpgrade) fun hupgrade => ?_
  case nodeUpgrade =>
    obtain ⟨htriggers, hrefused, -⟩ := upgradeTriggersOrIsRefused s f hrun hfsm
    rw [exec_classify_of_nodeUpgrade hc hrule hrow]
    exact eq_next_ite htriggers fun hup => hrefused (Bool.eq_false_iff.mpr hup)
  refine eq_next_ite (fun hrow => ?bitOp) fun hbitOp => ?_
  case bitOp => rw [exec_classify_of_bitOp hc hrule hrun hfsm hrow, hwire]
  refine eq_next_ite (fun hnoReg => ?noRow) fun hreg => ?_
  case noRow =>
    rcases classify_of_no_row hrule hdiscover hreset hupgrade hbitOp hnoReg with hrow | hrow
    · rw [hrow, hbcastInvalid]
    · rw [hrow, hnodeInvalid]
  have hreg := not_not.mp hreg
  refine eq_next_ite (fun hidx => ?highIndex) fun hidx => ?_
  case highIndex =>
    rcases hreg with hset | hget
    · rw [exec_classify_of_setReg hc hrule hset, hsetHigh hidx, hwire]
    · rw [exec_classify_of_getReg hc hrule hget, hgetHigh hidx, hwire]
  have hidx := Nat.not_le.mp hidx
  refine eq_next_ite (fun hkind => ?unassigned) fun hassigned => ?_
  case unassigned =>
    rcases hreg with hset | hget
    · rw [exec_classify_of_setReg hc hrule hset, hsetFree hidx hkind]
    · rw [exec_classify_of_getReg hc hrule hget, hgetFree hidx hkind]
  refine eq_next_ite (fun htyp => ?value) fun htyp => ?_
  case value =>
    have hother : f.typ ≠ s.cfg.typeCode.setReg := fun hset =>
      absurd (typeCodeOf_injective hc (a₁ := .setReg) (a₂ := .getReg) (hset.symm.trans htyp))
        (by decide)
    have hget := hreg.resolve_left fun hset => hother hset.1
    rw [exec_classify_of_getReg hc hrule hget, hgetStandard hidx hassigned, regValue_eq]
    exact getRegAnswersValue s f hrun hfsm
  have hset := hreg.resolve_right fun hget => htyp hget.1
  rw [exec_classify_of_setReg hc hrule hset]
  refine eq_next_ite (fun hkind => hsetReadOnly hidx hkind hassigned) fun hkind => ?nodeIdWrite
  case nodeIdWrite =>
    obtain ⟨hsize, hrejected, hstored⟩ :=
      nodeIdWriteStoresAndEchoes s f (addrOperand f) hrun hfsm (addrOperand_eq f)
    rw [hsetNodeId hidx (not_not.mp hkind), nodeIdChangedPayload, be16_setWidth]
    refine eq_next_ite hsize fun hdlc => ?_
    have hdlc := not_not.mp hdlc
    refine eq_next_ite (hrejected hdlc) fun hvalue => ?_
    obtain ⟨hzero, hbcast⟩ := not_or.mp hvalue
    exact hstored hdlc hzero hbcast

end Sys2Proof.Machine
end

section
/-! SUPPORT. A block that has stopped (R203): what is left of every operation and of every chosen move but both resets. -/

namespace Sys2Proof.Machine

variable {s t : State} {i : Instr} {m : Move}

/-- A stopped block takes no request. -/
theorem request_of_halted {α : Type} [DecidableEq α] {line : ReqLine α} {answered : Bool}
    {setLine : ReqLine α → State → State} {a : α} {accept : State → State} (hhalt : s.halt ≠ .run) :
    request line answered setLine a accept s = .fault .stuckTerminal :=
  if_pos hhalt

theorem dispatching_of_halted {body : State → State} (hhalt : s.halt ≠ .run) :
    dispatching s body = .fault .stuckTerminal :=
  if_pos hhalt

theorem sysStep_of_halted (hhalt : s.halt ≠ .run) : sysStep s = .next s := if_pos hhalt

/-- No dispatch case has a step on a stopped block. -/
theorem exec_case_of_halted {f : Frame} (hhalt : s.halt ≠ .run) (hi : i.frame? = some f) :
    exec i s = .fault .stuckTerminal := by
  obtain ⟨body, hexec, -⟩ := exec_eq_dispatching s hi
  exact hexec.trans (dispatching_of_halted hhalt)

/-- Of the block operations, the codec's two and the completion alone do not test `halt`. -/
theorem exec_op_of_halted (hhalt : s.halt ≠ .run) (hi : i.frame? = none)
    (hencode : ∀ p y q d r, i ≠ .encode p y q d r) (hdecode : ∀ id, i ≠ .decode id)
    (hcompletion : i ≠ .txdoneC) : exec i s = .fault .stuckTerminal := by
  cases i <;> cases hi
  case encode p y q d r => exact absurd rfl (hencode p y q d r)
  case decode id => exact absurd rfl (hdecode id)
  case txdoneC => exact absurd rfl hcompletion
  case breq | poll | submit => exact request_of_halted hhalt
  case rx | syncW | syncR | init | txdoneH => exact if_pos hhalt

/-- The moves that a stopped block leaves: they write levels that the environment, the APP and the codec drive, and one
of them is the TRANSPORT's completion (notes/assumptions/8.md, 9.md, 14.md). -/
inductive HaltedMove (s : State) : Move → State → Prop
  /-- Input ports and the codec's output ports take any values. -/
  | drivesPorts {m : Move} (cause : Byte) (poll : ReqLine Unit) (sub : ReqLine WFrame)
      (breq : ReqLine BreqArgs) (enc : WireId) (dec : DecOut) : HaltedMove s m
        { s with resetCause := cause, pollReq := poll, subReq := sub, breqReq := breq
                 encId := enc, decOut := dec }
  /-- TXDONE.C (R183). -/
  | completes : HaltedMove s (.op .txdoneC) { s with sending := none, txdonePending := true }

/-- A move that passes. -/
theorem HaltedMove.passes : HaltedMove s m s := .drivesPorts _ _ _ _ _ _

/-- Of the operations, the codec's and the completion complete without a running block. -/
theorem haltedMove_of_exec (hhalt : s.halt ≠ .run) (hnext : exec i s = .next t) :
    HaltedMove s (.op i) t := by
  cases exec_effect hnext with
  | encoded | decoded => exact .drivesPorts _ _ _ _ _ _
  | completed => exact .completes
  | fetched hrun | pollWaits hrun | handled hrun | syncedWr hrun | syncedRd hrun
  | pollEnded _ hrun | responded _ hrun | addrStored _ hrun | triggered _ hrun
  | submitted _ hrun | submitWaits _ hrun | loaded _ hrun | received _ hrun
  | built _ _ hrun | breqWaits _ _ hrun => exact absurd hrun hhalt

/-- Sampling a request port of a stopped block completes where nothing is raised, and does nothing. -/
theorem serveRequest_of_halted {p : ReqPort} (hhalt : s.halt ≠ .run)
    (hnext : serveRequest p s = .next t) : t = s := by
  cases p with
  | poll =>
    simp only [serveRequest] at hnext
    split at hnext
    case h_1 => cases (request_of_halted hhalt).symm.trans hnext
    case h_2 | h_3 => exact (Host.Outcome.next.inj hnext).symm
  | submit =>
    simp only [serveRequest] at hnext
    split at hnext
    case h_1 => cases (request_of_halted hhalt).symm.trans hnext
    case h_2 | h_3 => exact (Host.Outcome.next.inj hnext).symm
  | breq =>
    simp only [serveRequest] at hnext
    split at hnext
    case h_1 => cases (request_of_halted hhalt).symm.trans hnext
    case h_2 | h_3 => exact (Host.Outcome.next.inj hnext).symm

/-- The SUBMIT of a REQ completes on a stopped block where there is nothing to submit (R84). -/
theorem submitBuilt_of_halted {dlc : BitVec 4} {data : BitVec 64} (hhalt : s.halt ≠ .run)
    (hnext : submitBuilt dlc data s = .next t) : t = s := by
  unfold submitBuilt at hnext
  split at hnext
  case isTrue => exact (Host.Outcome.next.inj hnext).symm
  case isFalse =>
    split at hnext
    case h_1 => cases (request_of_halted hhalt).symm.trans hnext
    case h_2 => exact (Host.Outcome.next.inj hnext).symm

/-- Every move of an agent but both resets, on a stopped block (R203). -/
theorem haltedMove_of_takeMove (hhalt : s.halt ≠ .run) (hm : m ≠ .assertResets)
    (hnext : takeMove m s = .next t) : HaltedMove s m t := by
  cases m with
  | op i =>
    simp only [takeMove] at hnext
    split at hnext
    case isTrue => cases hnext
    case isFalse => exact haltedMove_of_exec hhalt hnext
  | sys =>
    obtain rfl := Host.Outcome.next.inj ((sysStep_of_halted hhalt).symm.trans hnext)
    exact .passes
  | serve p => exact serveRequest_of_halted hhalt hnext ▸ .passes
  | drivePoll | driveSub | driveBreq =>
    obtain ⟨l, rfl, -⟩ := driveRequest_next hnext
    exact .drivesPorts _ _ _ _ _ _
  | submitBuilt dlc data => exact submitBuilt_of_halted hhalt hnext ▸ .passes
  | setResetCause v =>
    cases hnext
    exact .drivesPorts _ _ _ _ _ _
  | assertResets => exact absurd rfl hm
  | assertOneReset d => cases hnext

end Sys2Proof.Machine
end

section
/-! SUPPORT. A poll that the block does not accept yet, at its port (R194, R200). -/

namespace Sys2Proof.Machine

variable {s : State}

/-- In IDLE, or at a port whose request is not the poll in progress, a POLL is a request of its own. -/
theorem raiseLine_poll_new (h : s.fsm = .idle ∨ s.pollReq ≠ .taken ()) :
    raiseLine s.pollReq (pollAnswered s) () = some (.raised ()) := by
  cases hl : s.pollReq with
  | low | raised => rfl
  | taken =>
    have hans : pollAnswered s = true := pollAnswered_iff.mpr (h.resolve_right (absurd hl))
    rw [hans, raiseLine_answered nofun]

/-- While a poll is in progress, a POLL at the port that holds it is that poll. -/
theorem raiseLine_poll_held (hfsm : s.fsm ≠ .idle) (hl : s.pollReq = .taken ()) :
    raiseLine s.pollReq (pollAnswered s) () = some (.taken ()) := by
  rw [hl, pollAnswered_eq_false.mpr hfsm]
  rfl

end Sys2Proof.Machine
end

section
/-! SUPPORT. `norm` of the persistence answer (R193). -/

namespace Sys2Proof.Machine

theorem normAddr_none : normAddr none = 0 := rfl

theorem normAddr_some_bcast : normAddr (some bcast) = 0 := by
  rw [normAddr, if_pos rfl]

/-- Any value but the broadcast address is kept, 0 among them. -/
theorem normAddr_some_of_ne {v : Addr} (h : v ≠ bcast) : normAddr (some v) = v := if_neg h

end Sys2Proof.Machine
end

section
/-! Settled statements: the terminal state, the requests that wait and start-up (70_reset_and_hazards.md). -/

namespace Sys2Proof.Machine

/-- Settles O57: a dispatch case, a request, and a step of BUS or SYNC each test `halt` first. -/
theorem noStepAfterTerminalTrigger : Obligations.NoStepAfterTerminalTrigger := by
  intro s i hhalt hencode hdecode hcompletion
  cases hi : i.frame? with
  | some f => exact exec_case_of_halted hhalt hi
  | none => exact exec_op_of_halted hhalt hi hencode hdecode hcompletion

/-- Settles O58: the move drives ports or is the TRANSPORT's completion. -/
theorem terminalStateIsFrozen : Obligations.TerminalStateIsFrozen := by
  intro s t m rest hhalt hagenda hm hstep
  have hnext : takeMove m { s with agenda := rest } = .next t :=
    (step_of_agenda hagenda).symm.trans hstep
  have hmove := haltedMove_of_takeMove (s := { s with agenda := rest }) hhalt hm hnext
  cases hmove with
  | drivesPorts =>
    exact ⟨rfl, rfl, rfl, rfl, rfl, rfl, rfl, rfl, rfl, rfl, rfl, rfl, rfl, rfl, rfl, rfl, rfl,
      rfl, rfl, fun _ => ⟨rfl, rfl⟩⟩
  | completes =>
    exact ⟨rfl, rfl, rfl, rfl, rfl, rfl, rfl, rfl, rfl, rfl, rfl, rfl, rfl, rfl, rfl, rfl, rfl,
      rfl, rfl, absurd rfl⟩

/-- Settles O34, port by port: a request is raised there, is the poll in progress, or contradicts the one that waits. -/
theorem requestsWaitUntilAccepted : Obligations.RequestsWaitUntilAccepted := by
  intro s hrun hacc
  refine ⟨fun hnew => ?pollWaits, fun hfsm hl => ?pollInProgress, fun w hsame => ?submitWaits,
    fun w u hl hother => ?submitChanged, fun y d hsame => ?breqWaits,
    fun y d a hl hother => ?breqChanged⟩
  case pollWaits =>
    exact request_next.mpr ⟨hrun, _, raiseLine_poll_new hnew, .inr ⟨hacc, rfl⟩⟩
  case pollInProgress =>
    exact request_next.mpr
      ⟨hrun, _, raiseLine_poll_held hfsm hl, .inr ⟨hacc, (setPollReq_self hl).symm⟩⟩
  case submitWaits => exact request_waits hrun hacc hsame
  case submitChanged => exact request_changed hrun hl hother
  case breqWaits => exact request_waits hrun hacc hsame
  case breqChanged => exact request_changed hrun hl hother

/-- Settles O36: INIT loads `norm` of the answer. -/
theorem initLoadsAddress : Obligations.InitLoadsAddress := by
  intro s ans hrun hready
  refine ⟨normAddr ans, execInit_next.mpr ⟨hrun, hready, rfl⟩, ?unset, ?zero, ?bcast, ?legal⟩
  case unset => rintro rfl; exact normAddr_none
  case zero => rintro rfl; exact normAddr_some_of_ne (by decide)
  case bcast => rintro rfl; exact normAddr_some_bcast
  case legal => rintro v rfl - hv; exact normAddr_some_of_ne hv

end Sys2Proof.Machine
end
